-- ==== Sys2Proof/Word.lean ====
section
/-! DEFINITION. The two widths of the machine: the 8-bit data bus and the 16-bit address bus (R5, R60, R66). -/

namespace Sys2Proof

/-- Eight bits: every register but the program counter, and every datum on the bus (R5). Bit 0 is the least
significant (R7). -/
abbrev Byte := BitVec 8

/-- Sixteen bits: the program counter and every address (R5, R27, R60). -/
abbrev Word := BitVec 16

end Sys2Proof
end

