-- ==== Sys2Proof/Config.lean ====
section
/-! DEFINITION. What the spec leaves to the implementation or does not state (R6): constants with no body, so that
nothing proved can rest on a choice of them. -/

namespace Sys2Proof.Config

/-- The three devices of the family (R1, R2). -/
inductive Device where
  /-- External phase-0 clock; neither BE nor ML (R5). -/
  | r65c02
  /-- On-chip crystal oscillator; BE and ML (R5). -/
  | r65c102
  /-- Slave processor, clocked by a host; BE and ML (R5). -/
  | r65c112
deriving DecidableEq, Repr, Inhabited

/-- The BE input exists on the R65C102 and R65C112 only (R5, R317). -/
def Device.hasBusEnable : Device → Bool
  | .r65c02 => false
  | .r65c102 => true
  | .r65c112 => true

/-- The ML output exists on the R65C102 and R65C112 only (R5, R73, R318). -/
def Device.hasMemoryLock : Device → Bool
  | .r65c02 => false
  | .r65c102 => true
  | .r65c112 => true

/-- Which device of the family this machine is (R2, log 13). The instruction set does not depend on it. -/
opaque device : Device

/-- The parameter `RsvLen` of R6 less one: `RsvLen(op)` is 1, 2 or 3 (R125, R270, log 4). -/
opaque rsvLenMinusOne : Byte → Fin 3

/-- The parameter `RsvLen` of R6: the one length of an unassigned op code, by which pc advances, bytes are fetched and
the decoder goes on (R125, R270, log 4). -/
def rsvLen (op : Byte) : Nat := (rsvLenMinusOne op).val + 1

/-- The parameter `RsvCycles` of R6 less `RsvLen` (R125, log 4). -/
opaque rsvCyclesMore : Byte → Nat

/-- The parameter `RsvCycles` of R6: any number that leaves a cycle for the fetch of each byte (R61, R125, log 4). -/
def rsvCycles (op : Byte) : Nat := rsvLen op + rsvCyclesMore op

/-- The last argument of the decimal parameters of R6. -/
inductive AddOrSub where
  | add
  | sub
deriving DecidableEq, Repr, Inhabited

/-- What a decimal operation yields: the `(r, C', V', N', Z')` of R162 and R163. -/
structure DecimalResult where
  result : Byte
  carry : Bool
  overflow : Bool
  negative : Bool
  zero : Bool
deriving DecidableEq, Repr, Inhabited

/-- The parameter `DecimalV` of R6: V after a decimal ADC or SBC, from A, the operand and the carry in
(R162, R163, log 5). -/
opaque decimalV : Byte → Byte → Bool → AddOrSub → Bool

/-- The parameter `DecimalInvalid` of R6: A, N, V, Z, C when an operand is not valid BCD (R162, R163, log 6). -/
opaque decimalInvalid : Byte → Byte → Bool → AddOrSub → DecimalResult

/-- The part of the parameter `IntPriority` of R6 that R309 leaves open: whether an NMI goes before an IRQ pending
at the same boundary (log 7). -/
opaque nmiBeforeIrq : Bool

/-- The parameter `ResetA` of R6, one value for each draw (log 3). -/
opaque resetA : Nat → Byte

/-- The parameter `ResetX` of R6, one value for each draw (log 3). -/
opaque resetX : Nat → Byte

/-- The parameter `ResetY` of R6, one value for each draw (log 3). -/
opaque resetY : Nat → Byte

/-- The parameter `ResetS` of R6, one value for each draw (log 3). -/
opaque resetS : Nat → Byte

/-- The N of the parameter `ResetFlags` of R6 (log 3). -/
opaque resetN : Nat → Bool

/-- The V of the parameter `ResetFlags` of R6 (log 3). -/
opaque resetV : Nat → Bool

/-- The Z of the parameter `ResetFlags` of R6 (log 3). -/
opaque resetZ : Nat → Bool

/-- The C of the parameter `ResetFlags` of R6 (log 3). -/
opaque resetC : Nat → Bool

/-- The instruction register after a reset sequence, which R44 does not list (log 24). -/
opaque resetIr : Nat → Byte

/-- V after an instruction that writes V while SO falls: which write wins is not stated (R315, log 10). -/
opaque collisionV : Nat → Bool

/-- The hidden and visible contents of the CPU, where all of it is unspecified at once. -/
structure Registers where
  a : Byte
  x : Byte
  y : Byte
  sp : Byte
  /-- The flags, laid out as a pulled byte (R40). -/
  p : Byte
  pc : Word
  ir : Byte
  tcu : Nat
  nmiPending : Bool
deriving DecidableEq, Repr, Inhabited

/-- The CPU's contents once the clock has stood low too long, one value for each draw (R43, R357, log 15). -/
opaque lost : Nat → Registers

/-- The CPU's contents once RES has cut a step short, one value for each draw (R350, U10, log 11). -/
opaque cut : Nat → Registers

/-- What stands at an address that a step cut short by RES was writing (R350, log 11). -/
opaque cutByte : Nat → Word → Byte

/-- How many cycles a step cut short by RES still took (R350, log 11). -/
opaque cutCycles : Nat → Nat

/-- How many of the accesses listed a step cut short by RES still made, where discarded reads are not recorded (R350,
log 11). -/
opaque cutAccesses : Nat → Nat

/-- The byte the platform supplies where a device stands or nothing responds: the draw, the place of the access in the
step, the address (R62, D1, D21, log 1). -/
opaque platformByte : Nat → Nat → Word → Byte

/-- The parameter `DummyReads` of R6: whether the discarded reads of R72, R74 and R76 are recorded (D8, log 19). -/
opaque dummyReads : Bool

/-- A discarded read whose address the source does not give (R76). -/
structure DiscardedRead where
  addr : Word
  /-- When in the step it is made. -/
  moment : Nat
deriving DecidableEq, Repr, Inhabited

/-- The discarded reads of R76: the draw, which of the step's such reads it is (R76, log 19). -/
opaque discardedRead : Nat → Nat → DiscardedRead

/-- Whether ML is asserted during the modify and write cycles of RMB and SMB, which the source's list does not
name (R73, D23, log 19). -/
opaque mlDuringBitOps : Bool

end Sys2Proof.Config
end

