-- ==== Sys2Proof/Syntax.lean ====
section
/-! DEFINITION. The instructions: one constructor for each of the 256 rows of spec/opcode_table.json (R121, R124), those
with operand bytes first, each group in the order of its op codes (Lean's runtime wants a constructor past the 244th
to have no field). An operand field is the byte or the word the encoding holds: `imm` the immediate byte
(R106), `zp` a page-zero address (R108), `addr` the 16-bit operand of format F3 (R103), `rel` a signed offset (R114,
R115). The bytes an unassigned op code skips have no meaning, and no field keeps one (R125, R270). -/

namespace Sys2Proof

/-- A byte the op-code table lists after an unassigned op code. Whether it belongs to the instruction is for `RsvLen` to
say, and it has no meaning, so that nothing of it is kept: the type has one value (R125, R270, log 4). -/
structure Skipped where
deriving DecidableEq, Repr

/-- An instruction: a mnemonic in one operand form. -/
inductive Instr where
  /-- 0x01 ORA, (IND, X) (R192). -/
  | oraIndX (zp : Byte)
  /-- 0x02 RSV_02 (R270). -/
  | rsv02 (b1 : Skipped)
  /-- 0x04 TSB, ZP (R199). -/
  | tsbZp (zp : Byte)
  /-- 0x05 ORA, ZP (R192). -/
  | oraZp (zp : Byte)
  /-- 0x06 ASL, ZP (R194). -/
  | aslZp (zp : Byte)
  /-- 0x07 RMB0, ZP (R200). -/
  | rmb0 (zp : Byte)
  /-- 0x09 ORA, IMM (R192). -/
  | oraImm (imm : Byte)
  /-- 0x0C TSB, ABS (R199). -/
  | tsbAbs (addr : Word)
  /-- 0x0D ORA, ABS (R192). -/
  | oraAbs (addr : Word)
  /-- 0x0E ASL, ABS (R194). -/
  | aslAbs (addr : Word)
  /-- 0x0F BBR0, ZP REL (R230). -/
  | bbr0 (zp : Byte) (rel : Byte)
  /-- 0x10 BPL, Relative (R226). -/
  | bpl (rel : Byte)
  /-- 0x11 ORA, (IND), Y (R192). -/
  | oraIndY (zp : Byte)
  /-- 0x12 ORA, (IND) (R192). -/
  | oraInd (zp : Byte)
  /-- 0x14 TRB, ZP (R198). -/
  | trbZp (zp : Byte)
  /-- 0x15 ORA, ZP, X (R192). -/
  | oraZpX (zp : Byte)
  /-- 0x16 ASL, ZP, X (R194). -/
  | aslZpX (zp : Byte)
  /-- 0x17 RMB1, ZP (R200). -/
  | rmb1 (zp : Byte)
  /-- 0x19 ORA, ABS, Y (R192). -/
  | oraAbsY (addr : Word)
  /-- 0x1C TRB, ABS (R198). -/
  | trbAbs (addr : Word)
  /-- 0x1D ORA, ABS, X (R192). -/
  | oraAbsX (addr : Word)
  /-- 0x1E ASL, ABS, X (R194). -/
  | aslAbsX (addr : Word)
  /-- 0x1F BBR1, ZP REL (R230). -/
  | bbr1 (zp : Byte) (rel : Byte)
  /-- 0x20 JSR, ABS (R233). -/
  | jsr (addr : Word)
  /-- 0x21 AND, (IND, X) (R190). -/
  | andIndX (zp : Byte)
  /-- 0x22 RSV_22 (R270). -/
  | rsv22 (b1 : Skipped)
  /-- 0x24 BIT, ZP (R193). -/
  | bitZp (zp : Byte)
  /-- 0x25 AND, ZP (R190). -/
  | andZp (zp : Byte)
  /-- 0x26 ROL, ZP (R196). -/
  | rolZp (zp : Byte)
  /-- 0x27 RMB2, ZP (R200). -/
  | rmb2 (zp : Byte)
  /-- 0x29 AND, IMM (R190). -/
  | andImm (imm : Byte)
  /-- 0x2C BIT, ABS (R193). -/
  | bitAbs (addr : Word)
  /-- 0x2D AND, ABS (R190). -/
  | andAbs (addr : Word)
  /-- 0x2E ROL, ABS (R196). -/
  | rolAbs (addr : Word)
  /-- 0x2F BBR2, ZP REL (R230). -/
  | bbr2 (zp : Byte) (rel : Byte)
  /-- 0x30 BMI, Relative (R224). -/
  | bmi (rel : Byte)
  /-- 0x31 AND, (IND), Y (R190). -/
  | andIndY (zp : Byte)
  /-- 0x32 AND, (IND) (R190). -/
  | andInd (zp : Byte)
  /-- 0x34 BIT, ZP, X (R193). -/
  | bitZpX (zp : Byte)
  /-- 0x35 AND, ZP, X (R190). -/
  | andZpX (zp : Byte)
  /-- 0x36 ROL, ZP, X (R196). -/
  | rolZpX (zp : Byte)
  /-- 0x37 RMB3, ZP (R200). -/
  | rmb3 (zp : Byte)
  /-- 0x39 AND, ABS, Y (R190). -/
  | andAbsY (addr : Word)
  /-- 0x3C BIT, ABS, X (R193). -/
  | bitAbsX (addr : Word)
  /-- 0x3D AND, ABS, X (R190). -/
  | andAbsX (addr : Word)
  /-- 0x3E ROL, ABS, X (R196). -/
  | rolAbsX (addr : Word)
  /-- 0x3F BBR3, ZP REL (R230). -/
  | bbr3 (zp : Byte) (rel : Byte)
  /-- 0x41 EOR, (IND, X) (R191). -/
  | eorIndX (zp : Byte)
  /-- 0x42 RSV_42 (R270). -/
  | rsv42 (b1 : Skipped)
  /-- 0x44 RSV_44 (R270). -/
  | rsv44 (b1 : Skipped)
  /-- 0x45 EOR, ZP (R191). -/
  | eorZp (zp : Byte)
  /-- 0x46 LSR, ZP (R195). -/
  | lsrZp (zp : Byte)
  /-- 0x47 RMB4, ZP (R200). -/
  | rmb4 (zp : Byte)
  /-- 0x49 EOR, IMM (R191). -/
  | eorImm (imm : Byte)
  /-- 0x4C JMP, ABS (R232). -/
  | jmpAbs (addr : Word)
  /-- 0x4D EOR, ABS (R191). -/
  | eorAbs (addr : Word)
  /-- 0x4E LSR, ABS (R195). -/
  | lsrAbs (addr : Word)
  /-- 0x4F BBR4, ZP REL (R230). -/
  | bbr4 (zp : Byte) (rel : Byte)
  /-- 0x50 BVC, Relative (R228). -/
  | bvc (rel : Byte)
  /-- 0x51 EOR, (IND), Y (R191). -/
  | eorIndY (zp : Byte)
  /-- 0x52 EOR, (IND) (R191). -/
  | eorInd (zp : Byte)
  /-- 0x54 RSV_54 (R270). -/
  | rsv54 (b1 : Skipped)
  /-- 0x55 EOR, ZP, X (R191). -/
  | eorZpX (zp : Byte)
  /-- 0x56 LSR, ZP, X (R195). -/
  | lsrZpX (zp : Byte)
  /-- 0x57 RMB5, ZP (R200). -/
  | rmb5 (zp : Byte)
  /-- 0x59 EOR, ABS, Y (R191). -/
  | eorAbsY (addr : Word)
  /-- 0x5C RSV_5C (R270). -/
  | rsv5C (b1 b2 : Skipped)
  /-- 0x5D EOR, ABS, X (R191). -/
  | eorAbsX (addr : Word)
  /-- 0x5E LSR, ABS, X (R195). -/
  | lsrAbsX (addr : Word)
  /-- 0x5F BBR5, ZP REL (R230). -/
  | bbr5 (zp : Byte) (rel : Byte)
  /-- 0x61 ADC, (IND, X) (R165). -/
  | adcIndX (zp : Byte)
  /-- 0x62 RSV_62 (R270). -/
  | rsv62 (b1 : Skipped)
  /-- 0x64 STZ, ZP (R147). -/
  | stzZp (zp : Byte)
  /-- 0x65 ADC, ZP (R165). -/
  | adcZp (zp : Byte)
  /-- 0x66 ROR, ZP (R197). -/
  | rorZp (zp : Byte)
  /-- 0x67 RMB6, ZP (R200). -/
  | rmb6 (zp : Byte)
  /-- 0x69 ADC, IMM (R165). -/
  | adcImm (imm : Byte)
  /-- 0x6C JMP, (ABS) (R232). -/
  | jmpInd (addr : Word)
  /-- 0x6D ADC, ABS (R165). -/
  | adcAbs (addr : Word)
  /-- 0x6E ROR, ABS (R197). -/
  | rorAbs (addr : Word)
  /-- 0x6F BBR6, ZP REL (R230). -/
  | bbr6 (zp : Byte) (rel : Byte)
  /-- 0x70 BVS, Relative (R229). -/
  | bvs (rel : Byte)
  /-- 0x71 ADC, (IND), Y (R165). -/
  | adcIndY (zp : Byte)
  /-- 0x72 ADC, (IND) (R165). -/
  | adcInd (zp : Byte)
  /-- 0x74 STZ, ZP, X (R147). -/
  | stzZpX (zp : Byte)
  /-- 0x75 ADC, ZP, X (R165). -/
  | adcZpX (zp : Byte)
  /-- 0x76 ROR, ZP, X (R197). -/
  | rorZpX (zp : Byte)
  /-- 0x77 RMB7, ZP (R200). -/
  | rmb7 (zp : Byte)
  /-- 0x79 ADC, ABS, Y (R165). -/
  | adcAbsY (addr : Word)
  /-- 0x7C JMP, (ABS, X) (R232). -/
  | jmpIndX (addr : Word)
  /-- 0x7D ADC, ABS, X (R165). -/
  | adcAbsX (addr : Word)
  /-- 0x7E ROR, ABS, X (R197). -/
  | rorAbsX (addr : Word)
  /-- 0x7F BBR7, ZP REL (R230). -/
  | bbr7 (zp : Byte) (rel : Byte)
  /-- 0x80 BRA, Relative (R227). -/
  | bra (rel : Byte)
  /-- 0x81 STA, (IND, X) (R144). -/
  | staIndX (zp : Byte)
  /-- 0x82 RSV_82 (R270). -/
  | rsv82 (b1 : Skipped)
  /-- 0x84 STY, ZP (R146). -/
  | styZp (zp : Byte)
  /-- 0x85 STA, ZP (R144). -/
  | staZp (zp : Byte)
  /-- 0x86 STX, ZP (R145). -/
  | stxZp (zp : Byte)
  /-- 0x87 SMB0, ZP (R201). -/
  | smb0 (zp : Byte)
  /-- 0x89 BIT, IMM (R193). -/
  | bitImm (imm : Byte)
  /-- 0x8C STY, ABS (R146). -/
  | styAbs (addr : Word)
  /-- 0x8D STA, ABS (R144). -/
  | staAbs (addr : Word)
  /-- 0x8E STX, ABS (R145). -/
  | stxAbs (addr : Word)
  /-- 0x8F BBS0, ZP REL (R231). -/
  | bbs0 (zp : Byte) (rel : Byte)
  /-- 0x90 BCC, Relative (R221). -/
  | bcc (rel : Byte)
  /-- 0x91 STA, (IND), Y (R144). -/
  | staIndY (zp : Byte)
  /-- 0x92 STA, (IND) (R144). -/
  | staInd (zp : Byte)
  /-- 0x94 STY, ZP, X (R146). -/
  | styZpX (zp : Byte)
  /-- 0x95 STA, ZP, X (R144). -/
  | staZpX (zp : Byte)
  /-- 0x96 STX, ZP, Y (R145). -/
  | stxZpY (zp : Byte)
  /-- 0x97 SMB1, ZP (R201). -/
  | smb1 (zp : Byte)
  /-- 0x99 STA, ABS, Y (R144). -/
  | staAbsY (addr : Word)
  /-- 0x9C STZ, ABS (R147). -/
  | stzAbs (addr : Word)
  /-- 0x9D STA, ABS, X (R144). -/
  | staAbsX (addr : Word)
  /-- 0x9E STZ, ABS, X (R147). -/
  | stzAbsX (addr : Word)
  /-- 0x9F BBS1, ZP REL (R231). -/
  | bbs1 (zp : Byte) (rel : Byte)
  /-- 0xA0 LDY, IMM (R143). -/
  | ldyImm (imm : Byte)
  /-- 0xA1 LDA, (IND, X) (R141). -/
  | ldaIndX (zp : Byte)
  /-- 0xA2 LDX, IMM (R142). -/
  | ldxImm (imm : Byte)
  /-- 0xA4 LDY, ZP (R143). -/
  | ldyZp (zp : Byte)
  /-- 0xA5 LDA, ZP (R141). -/
  | ldaZp (zp : Byte)
  /-- 0xA6 LDX, ZP (R142). -/
  | ldxZp (zp : Byte)
  /-- 0xA7 SMB2, ZP (R201). -/
  | smb2 (zp : Byte)
  /-- 0xA9 LDA, IMM (R141). -/
  | ldaImm (imm : Byte)
  /-- 0xAC LDY, ABS (R143). -/
  | ldyAbs (addr : Word)
  /-- 0xAD LDA, ABS (R141). -/
  | ldaAbs (addr : Word)
  /-- 0xAE LDX, ABS (R142). -/
  | ldxAbs (addr : Word)
  /-- 0xAF BBS2, ZP REL (R231). -/
  | bbs2 (zp : Byte) (rel : Byte)
  /-- 0xB0 BCS, Relative (R222). -/
  | bcs (rel : Byte)
  /-- 0xB1 LDA, (IND), Y (R141). -/
  | ldaIndY (zp : Byte)
  /-- 0xB2 LDA, (IND) (R141). -/
  | ldaInd (zp : Byte)
  /-- 0xB4 LDY, ZP, X (R143). -/
  | ldyZpX (zp : Byte)
  /-- 0xB5 LDA, ZP, X (R141). -/
  | ldaZpX (zp : Byte)
  /-- 0xB6 LDX, ZP, Y (R142). -/
  | ldxZpY (zp : Byte)
  /-- 0xB7 SMB3, ZP (R201). -/
  | smb3 (zp : Byte)
  /-- 0xB9 LDA, ABS, Y (R141). -/
  | ldaAbsY (addr : Word)
  /-- 0xBC LDY, ABS, X (R143). -/
  | ldyAbsX (addr : Word)
  /-- 0xBD LDA, ABS, X (R141). -/
  | ldaAbsX (addr : Word)
  /-- 0xBE LDX, ABS, Y (R142). -/
  | ldxAbsY (addr : Word)
  /-- 0xBF BBS3, ZP REL (R231). -/
  | bbs3 (zp : Byte) (rel : Byte)
  /-- 0xC0 CPY, IMM (R169). -/
  | cpyImm (imm : Byte)
  /-- 0xC1 CMP, (IND, X) (R167). -/
  | cmpIndX (zp : Byte)
  /-- 0xC2 RSV_C2 (R270). -/
  | rsvC2 (b1 : Skipped)
  /-- 0xC4 CPY, ZP (R169). -/
  | cpyZp (zp : Byte)
  /-- 0xC5 CMP, ZP (R167). -/
  | cmpZp (zp : Byte)
  /-- 0xC6 DEC, ZP (R170). -/
  | decZp (zp : Byte)
  /-- 0xC7 SMB4, ZP (R201). -/
  | smb4 (zp : Byte)
  /-- 0xC9 CMP, IMM (R167). -/
  | cmpImm (imm : Byte)
  /-- 0xCC CPY, ABS (R169). -/
  | cpyAbs (addr : Word)
  /-- 0xCD CMP, ABS (R167). -/
  | cmpAbs (addr : Word)
  /-- 0xCE DEC, ABS (R170). -/
  | decAbs (addr : Word)
  /-- 0xCF BBS4, ZP REL (R231). -/
  | bbs4 (zp : Byte) (rel : Byte)
  /-- 0xD0 BNE, Relative (R225). -/
  | bne (rel : Byte)
  /-- 0xD1 CMP, (IND), Y (R167). -/
  | cmpIndY (zp : Byte)
  /-- 0xD2 CMP, (IND) (R167). -/
  | cmpInd (zp : Byte)
  /-- 0xD4 RSV_D4 (R270). -/
  | rsvD4 (b1 : Skipped)
  /-- 0xD5 CMP, ZP, X (R167). -/
  | cmpZpX (zp : Byte)
  /-- 0xD6 DEC, ZP, X (R170). -/
  | decZpX (zp : Byte)
  /-- 0xD7 SMB5, ZP (R201). -/
  | smb5 (zp : Byte)
  /-- 0xD9 CMP, ABS, Y (R167). -/
  | cmpAbsY (addr : Word)
  /-- 0xDC RSV_DC (R270). -/
  | rsvDC (b1 b2 : Skipped)
  /-- 0xDD CMP, ABS, X (R167). -/
  | cmpAbsX (addr : Word)
  /-- 0xDE DEC, ABS, X (R170). -/
  | decAbsX (addr : Word)
  /-- 0xDF BBS5, ZP REL (R231). -/
  | bbs5 (zp : Byte) (rel : Byte)
  /-- 0xE0 CPX, IMM (R168). -/
  | cpxImm (imm : Byte)
  /-- 0xE1 SBC, (IND, X) (R166). -/
  | sbcIndX (zp : Byte)
  /-- 0xE2 RSV_E2 (R270). -/
  | rsvE2 (b1 : Skipped)
  /-- 0xE4 CPX, ZP (R168). -/
  | cpxZp (zp : Byte)
  /-- 0xE5 SBC, ZP (R166). -/
  | sbcZp (zp : Byte)
  /-- 0xE6 INC, ZP (R173). -/
  | incZp (zp : Byte)
  /-- 0xE7 SMB6, ZP (R201). -/
  | smb6 (zp : Byte)
  /-- 0xE9 SBC, IMM (R166). -/
  | sbcImm (imm : Byte)
  /-- 0xEC CPX, ABS (R168). -/
  | cpxAbs (addr : Word)
  /-- 0xED SBC, ABS (R166). -/
  | sbcAbs (addr : Word)
  /-- 0xEE INC, ABS (R173). -/
  | incAbs (addr : Word)
  /-- 0xEF BBS6, ZP REL (R231). -/
  | bbs6 (zp : Byte) (rel : Byte)
  /-- 0xF0 BEQ, Relative (R223). -/
  | beq (rel : Byte)
  /-- 0xF1 SBC, (IND), Y (R166). -/
  | sbcIndY (zp : Byte)
  /-- 0xF2 SBC, (IND) (R166). -/
  | sbcInd (zp : Byte)
  /-- 0xF4 RSV_F4 (R270). -/
  | rsvF4 (b1 : Skipped)
  /-- 0xF5 SBC, ZP, X (R166). -/
  | sbcZpX (zp : Byte)
  /-- 0xF6 INC, ZP, X (R173). -/
  | incZpX (zp : Byte)
  /-- 0xF7 SMB7, ZP (R201). -/
  | smb7 (zp : Byte)
  /-- 0xF9 SBC, ABS, Y (R166). -/
  | sbcAbsY (addr : Word)
  /-- 0xFC RSV_FC (R270). -/
  | rsvFC (b1 b2 : Skipped)
  /-- 0xFD SBC, ABS, X (R166). -/
  | sbcAbsX (addr : Word)
  /-- 0xFE INC, ABS, X (R173). -/
  | incAbsX (addr : Word)
  /-- 0xFF BBS7, ZP REL (R231). -/
  | bbs7 (zp : Byte) (rel : Byte)
  /-- 0x00 BRK, Implied (R268). -/
  | brk
  /-- 0x03 RSV_03 (R270). -/
  | rsv03
  /-- 0x08 PHP, Implied (R253). -/
  | php
  /-- 0x0A ASL, Accum (R194). -/
  | aslAcc
  /-- 0x0B RSV_0B (R270). -/
  | rsv0B
  /-- 0x13 RSV_13 (R270). -/
  | rsv13
  /-- 0x18 CLC, Implied (R260). -/
  | clc
  /-- 0x1A INC, Accum (R173). -/
  | incAcc
  /-- 0x1B RSV_1B (R270). -/
  | rsv1B
  /-- 0x23 RSV_23 (R270). -/
  | rsv23
  /-- 0x28 PLP, Implied (R257). -/
  | plp
  /-- 0x2A ROL, Accum (R196). -/
  | rolAcc
  /-- 0x2B RSV_2B (R270). -/
  | rsv2B
  /-- 0x33 RSV_33 (R270). -/
  | rsv33
  /-- 0x38 SEC, Implied (R264). -/
  | sec
  /-- 0x3A DEC, Accum (R170). -/
  | decAcc
  /-- 0x3B RSV_3B (R270). -/
  | rsv3B
  /-- 0x40 RTI, Implied (R269). -/
  | rti
  /-- 0x43 RSV_43 (R270). -/
  | rsv43
  /-- 0x48 PHA, Implied (R252). -/
  | pha
  /-- 0x4A LSR, Accum (R195). -/
  | lsrAcc
  /-- 0x4B RSV_4B (R270). -/
  | rsv4B
  /-- 0x53 RSV_53 (R270). -/
  | rsv53
  /-- 0x58 CLI, Implied (R262). -/
  | cli
  /-- 0x5A PHY, Implied (R255). -/
  | phy
  /-- 0x5B RSV_5B (R270). -/
  | rsv5B
  /-- 0x60 RTS, Implied (R234). -/
  | rts
  /-- 0x63 RSV_63 (R270). -/
  | rsv63
  /-- 0x68 PLA, Implied (R256). -/
  | pla
  /-- 0x6A ROR, Accum (R197). -/
  | rorAcc
  /-- 0x6B RSV_6B (R270). -/
  | rsv6B
  /-- 0x73 RSV_73 (R270). -/
  | rsv73
  /-- 0x78 SEI, Implied (R266). -/
  | sei
  /-- 0x7A PLY, Implied (R259). -/
  | ply
  /-- 0x7B RSV_7B (R270). -/
  | rsv7B
  /-- 0x83 RSV_83 (R270). -/
  | rsv83
  /-- 0x88 DEY, Implied (R172). -/
  | dey
  /-- 0x8A TXA, Implied (R151). -/
  | txa
  /-- 0x8B RSV_8B (R270). -/
  | rsv8B
  /-- 0x93 RSV_93 (R270). -/
  | rsv93
  /-- 0x98 TYA, Implied (R153). -/
  | tya
  /-- 0x9A TXS, Implied (R152). -/
  | txs
  /-- 0x9B RSV_9B (R270). -/
  | rsv9B
  /-- 0xA3 RSV_A3 (R270). -/
  | rsvA3
  /-- 0xA8 TAY, Implied (R149). -/
  | tay
  /-- 0xAA TAX, Implied (R148). -/
  | tax
  /-- 0xAB RSV_AB (R270). -/
  | rsvAB
  /-- 0xB3 RSV_B3 (R270). -/
  | rsvB3
  /-- 0xB8 CLV, Implied (R263). -/
  | clv
  /-- 0xBA TSX, Implied (R150). -/
  | tsx
  /-- 0xBB RSV_BB (R270). -/
  | rsvBB
  /-- 0xC3 RSV_C3 (R270). -/
  | rsvC3
  /-- 0xC8 INY, Implied (R175). -/
  | iny
  /-- 0xCA DEX, Implied (R171). -/
  | dex
  /-- 0xCB RSV_CB (R270). -/
  | rsvCB
  /-- 0xD3 RSV_D3 (R270). -/
  | rsvD3
  /-- 0xD8 CLD, Implied (R261). -/
  | cld
  /-- 0xDA PHX, Implied (R254). -/
  | phx
  /-- 0xDB RSV_DB (R270). -/
  | rsvDB
  /-- 0xE3 RSV_E3 (R270). -/
  | rsvE3
  /-- 0xE8 INX, Implied (R174). -/
  | inx
  /-- 0xEA NOP, Implied (R267). -/
  | nop
  /-- 0xEB RSV_EB (R270). -/
  | rsvEB
  /-- 0xF3 RSV_F3 (R270). -/
  | rsvF3
  /-- 0xF8 SED, Implied (R265). -/
  | sed
  /-- 0xFA PLX, Implied (R258). -/
  | plx
  /-- 0xFB RSV_FB (R270). -/
  | rsvFB
deriving DecidableEq, Repr

end Sys2Proof
end

