-- ==== Sys2Proof/WellFormed.lean ====
section
/-! DEFINITION. When a string of bytes is the encoding of one instruction: the first byte alone fixes the length
(R100, R101, R103). The operand fields of `Instr` have the encodings' own widths, so every term of `Instr` names
values its encoding admits; what can be ill formed is a string of bytes. -/

namespace Sys2Proof

/-- The four instruction formats (R103). -/
inductive Format where
  | f1
  | f2
  | f3
  | f3zr
deriving DecidableEq, Repr

/-- How many bytes an instruction of the format has (R103). -/
def Format.length : Format → Nat
  | .f1 => 1
  | .f2 => 2
  | .f3 => 3
  | .f3zr => 3

/-- The 46 op codes that the matrix leaves empty (R124). -/
def unassigned (op : Byte) : Bool :=
  op.toNat % 16 == 0x3 || op.toNat % 16 == 0xB ||
    [0x02, 0x22, 0x42, 0x62, 0x82, 0xC2, 0xE2, 0x44, 0x54, 0xD4, 0xF4, 0x5C, 0xDC, 0xFC].contains op

/-- The format of an assigned op code, read off the columns of the op-code map (R103, R121). DEDUCED: the source gives
no bit-field decomposition (R101); `Sys2Proof.Laws.EncodingFits` proves that this summary agrees with the encoder on
every instruction. Safe. -/
def opFormat (op : Byte) : Format :=
  match op.toNat % 16 with
  | 0x0 => if op = 0x20 then .f3 else if op = 0x00 ∨ op = 0x40 ∨ op = 0x60 then .f1 else .f2
  | 0x8 => .f1
  | 0x9 => if op.toNat / 16 % 2 = 1 then .f3 else .f2
  | 0xA => .f1
  | 0xC => .f3
  | 0xD => .f3
  | 0xE => .f3
  | 0xF => .f3zr
  | _ => .f2

/-- How many bytes an instruction with this op code has (R101, R103); for an unassigned one, the parameter `RsvLen`
(R125, R270, log 4). -/
def opLength (op : Byte) : Nat :=
  if unassigned op then Config.rsvLen op else (opFormat op).length

/-- The bytes are one whole instruction and nothing more: the op code, and as many bytes after it as its length asks for
(R100, R101, R103). -/
def wellFormed : List Byte → Bool
  | [] => false
  | op :: operands => operands.length + 1 == opLength op

end Sys2Proof
end

