-- ==== Sys2Proof/Decode.lean ====
section
/-! DEFINITION. Decoding: table lookup on the first byte (R100 to R103, R121). The sixteen rows of the op-code map are
sixteen definitions, one column a line; the last line of each is column F. Then the encoder. Decoding depends on no
state (R126). -/

namespace Sys2Proof

/-- `hi : lo`, the word of two bytes (R7, R63). -/
def wordOf (lo hi : Byte) : Word := hi ++ lo

/-- Bits 7 to 0 of a word. -/
def lowByte (w : Word) : Byte := w.extractLsb' 0 8

/-- Bits 15 to 8 of a word. -/
def highByte (w : Word) : Byte := w.extractLsb' 8 8

/-- Row 0 of the op-code map: op codes 0x00 to 0x0F (R121). -/
def decodeRow0 (column : Nat) (b1 b2 : Byte) : Instr :=
  match column with
  | 0x0 => .brk
  | 0x1 => .oraIndX b1
  | 0x2 => .rsv02 ⟨⟩
  | 0x3 => .rsv03
  | 0x4 => .tsbZp b1
  | 0x5 => .oraZp b1
  | 0x6 => .aslZp b1
  | 0x7 => .rmb0 b1
  | 0x8 => .php
  | 0x9 => .oraImm b1
  | 0xA => .aslAcc
  | 0xB => .rsv0B
  | 0xC => .tsbAbs (wordOf b1 b2)
  | 0xD => .oraAbs (wordOf b1 b2)
  | 0xE => .aslAbs (wordOf b1 b2)
  | _ => .bbr0 b1 b2

/-- Row 1 of the op-code map: op codes 0x10 to 0x1F (R121). -/
def decodeRow1 (column : Nat) (b1 b2 : Byte) : Instr :=
  match column with
  | 0x0 => .bpl b1
  | 0x1 => .oraIndY b1
  | 0x2 => .oraInd b1
  | 0x3 => .rsv13
  | 0x4 => .trbZp b1
  | 0x5 => .oraZpX b1
  | 0x6 => .aslZpX b1
  | 0x7 => .rmb1 b1
  | 0x8 => .clc
  | 0x9 => .oraAbsY (wordOf b1 b2)
  | 0xA => .incAcc
  | 0xB => .rsv1B
  | 0xC => .trbAbs (wordOf b1 b2)
  | 0xD => .oraAbsX (wordOf b1 b2)
  | 0xE => .aslAbsX (wordOf b1 b2)
  | _ => .bbr1 b1 b2

/-- Row 2 of the op-code map: op codes 0x20 to 0x2F (R121). -/
def decodeRow2 (column : Nat) (b1 b2 : Byte) : Instr :=
  match column with
  | 0x0 => .jsr (wordOf b1 b2)
  | 0x1 => .andIndX b1
  | 0x2 => .rsv22 ⟨⟩
  | 0x3 => .rsv23
  | 0x4 => .bitZp b1
  | 0x5 => .andZp b1
  | 0x6 => .rolZp b1
  | 0x7 => .rmb2 b1
  | 0x8 => .plp
  | 0x9 => .andImm b1
  | 0xA => .rolAcc
  | 0xB => .rsv2B
  | 0xC => .bitAbs (wordOf b1 b2)
  | 0xD => .andAbs (wordOf b1 b2)
  | 0xE => .rolAbs (wordOf b1 b2)
  | _ => .bbr2 b1 b2

/-- Row 3 of the op-code map: op codes 0x30 to 0x3F (R121). -/
def decodeRow3 (column : Nat) (b1 b2 : Byte) : Instr :=
  match column with
  | 0x0 => .bmi b1
  | 0x1 => .andIndY b1
  | 0x2 => .andInd b1
  | 0x3 => .rsv33
  | 0x4 => .bitZpX b1
  | 0x5 => .andZpX b1
  | 0x6 => .rolZpX b1
  | 0x7 => .rmb3 b1
  | 0x8 => .sec
  | 0x9 => .andAbsY (wordOf b1 b2)
  | 0xA => .decAcc
  | 0xB => .rsv3B
  | 0xC => .bitAbsX (wordOf b1 b2)
  | 0xD => .andAbsX (wordOf b1 b2)
  | 0xE => .rolAbsX (wordOf b1 b2)
  | _ => .bbr3 b1 b2

/-- Row 4 of the op-code map: op codes 0x40 to 0x4F (R121). -/
def decodeRow4 (column : Nat) (b1 b2 : Byte) : Instr :=
  match column with
  | 0x0 => .rti
  | 0x1 => .eorIndX b1
  | 0x2 => .rsv42 ⟨⟩
  | 0x3 => .rsv43
  | 0x4 => .rsv44 ⟨⟩
  | 0x5 => .eorZp b1
  | 0x6 => .lsrZp b1
  | 0x7 => .rmb4 b1
  | 0x8 => .pha
  | 0x9 => .eorImm b1
  | 0xA => .lsrAcc
  | 0xB => .rsv4B
  | 0xC => .jmpAbs (wordOf b1 b2)
  | 0xD => .eorAbs (wordOf b1 b2)
  | 0xE => .lsrAbs (wordOf b1 b2)
  | _ => .bbr4 b1 b2

/-- Row 5 of the op-code map: op codes 0x50 to 0x5F (R121). -/
def decodeRow5 (column : Nat) (b1 b2 : Byte) : Instr :=
  match column with
  | 0x0 => .bvc b1
  | 0x1 => .eorIndY b1
  | 0x2 => .eorInd b1
  | 0x3 => .rsv53
  | 0x4 => .rsv54 ⟨⟩
  | 0x5 => .eorZpX b1
  | 0x6 => .lsrZpX b1
  | 0x7 => .rmb5 b1
  | 0x8 => .cli
  | 0x9 => .eorAbsY (wordOf b1 b2)
  | 0xA => .phy
  | 0xB => .rsv5B
  | 0xC => .rsv5C ⟨⟩ ⟨⟩
  | 0xD => .eorAbsX (wordOf b1 b2)
  | 0xE => .lsrAbsX (wordOf b1 b2)
  | _ => .bbr5 b1 b2

/-- Row 6 of the op-code map: op codes 0x60 to 0x6F (R121). -/
def decodeRow6 (column : Nat) (b1 b2 : Byte) : Instr :=
  match column with
  | 0x0 => .rts
  | 0x1 => .adcIndX b1
  | 0x2 => .rsv62 ⟨⟩
  | 0x3 => .rsv63
  | 0x4 => .stzZp b1
  | 0x5 => .adcZp b1
  | 0x6 => .rorZp b1
  | 0x7 => .rmb6 b1
  | 0x8 => .pla
  | 0x9 => .adcImm b1
  | 0xA => .rorAcc
  | 0xB => .rsv6B
  | 0xC => .jmpInd (wordOf b1 b2)
  | 0xD => .adcAbs (wordOf b1 b2)
  | 0xE => .rorAbs (wordOf b1 b2)
  | _ => .bbr6 b1 b2

/-- Row 7 of the op-code map: op codes 0x70 to 0x7F (R121). -/
def decodeRow7 (column : Nat) (b1 b2 : Byte) : Instr :=
  match column with
  | 0x0 => .bvs b1
  | 0x1 => .adcIndY b1
  | 0x2 => .adcInd b1
  | 0x3 => .rsv73
  | 0x4 => .stzZpX b1
  | 0x5 => .adcZpX b1
  | 0x6 => .rorZpX b1
  | 0x7 => .rmb7 b1
  | 0x8 => .sei
  | 0x9 => .adcAbsY (wordOf b1 b2)
  | 0xA => .ply
  | 0xB => .rsv7B
  | 0xC => .jmpIndX (wordOf b1 b2)
  | 0xD => .adcAbsX (wordOf b1 b2)
  | 0xE => .rorAbsX (wordOf b1 b2)
  | _ => .bbr7 b1 b2

/-- Row 8 of the op-code map: op codes 0x80 to 0x8F (R121). -/
def decodeRow8 (column : Nat) (b1 b2 : Byte) : Instr :=
  match column with
  | 0x0 => .bra b1
  | 0x1 => .staIndX b1
  | 0x2 => .rsv82 ⟨⟩
  | 0x3 => .rsv83
  | 0x4 => .styZp b1
  | 0x5 => .staZp b1
  | 0x6 => .stxZp b1
  | 0x7 => .smb0 b1
  | 0x8 => .dey
  | 0x9 => .bitImm b1
  | 0xA => .txa
  | 0xB => .rsv8B
  | 0xC => .styAbs (wordOf b1 b2)
  | 0xD => .staAbs (wordOf b1 b2)
  | 0xE => .stxAbs (wordOf b1 b2)
  | _ => .bbs0 b1 b2

/-- Row 9 of the op-code map: op codes 0x90 to 0x9F (R121). -/
def decodeRow9 (column : Nat) (b1 b2 : Byte) : Instr :=
  match column with
  | 0x0 => .bcc b1
  | 0x1 => .staIndY b1
  | 0x2 => .staInd b1
  | 0x3 => .rsv93
  | 0x4 => .styZpX b1
  | 0x5 => .staZpX b1
  | 0x6 => .stxZpY b1
  | 0x7 => .smb1 b1
  | 0x8 => .tya
  | 0x9 => .staAbsY (wordOf b1 b2)
  | 0xA => .txs
  | 0xB => .rsv9B
  | 0xC => .stzAbs (wordOf b1 b2)
  | 0xD => .staAbsX (wordOf b1 b2)
  | 0xE => .stzAbsX (wordOf b1 b2)
  | _ => .bbs1 b1 b2

/-- Row A of the op-code map: op codes 0xA0 to 0xAF (R121). -/
def decodeRowA (column : Nat) (b1 b2 : Byte) : Instr :=
  match column with
  | 0x0 => .ldyImm b1
  | 0x1 => .ldaIndX b1
  | 0x2 => .ldxImm b1
  | 0x3 => .rsvA3
  | 0x4 => .ldyZp b1
  | 0x5 => .ldaZp b1
  | 0x6 => .ldxZp b1
  | 0x7 => .smb2 b1
  | 0x8 => .tay
  | 0x9 => .ldaImm b1
  | 0xA => .tax
  | 0xB => .rsvAB
  | 0xC => .ldyAbs (wordOf b1 b2)
  | 0xD => .ldaAbs (wordOf b1 b2)
  | 0xE => .ldxAbs (wordOf b1 b2)
  | _ => .bbs2 b1 b2

/-- Row B of the op-code map: op codes 0xB0 to 0xBF (R121). -/
def decodeRowB (column : Nat) (b1 b2 : Byte) : Instr :=
  match column with
  | 0x0 => .bcs b1
  | 0x1 => .ldaIndY b1
  | 0x2 => .ldaInd b1
  | 0x3 => .rsvB3
  | 0x4 => .ldyZpX b1
  | 0x5 => .ldaZpX b1
  | 0x6 => .ldxZpY b1
  | 0x7 => .smb3 b1
  | 0x8 => .clv
  | 0x9 => .ldaAbsY (wordOf b1 b2)
  | 0xA => .tsx
  | 0xB => .rsvBB
  | 0xC => .ldyAbsX (wordOf b1 b2)
  | 0xD => .ldaAbsX (wordOf b1 b2)
  | 0xE => .ldxAbsY (wordOf b1 b2)
  | _ => .bbs3 b1 b2

/-- Row C of the op-code map: op codes 0xC0 to 0xCF (R121). -/
def decodeRowC (column : Nat) (b1 b2 : Byte) : Instr :=
  match column with
  | 0x0 => .cpyImm b1
  | 0x1 => .cmpIndX b1
  | 0x2 => .rsvC2 ⟨⟩
  | 0x3 => .rsvC3
  | 0x4 => .cpyZp b1
  | 0x5 => .cmpZp b1
  | 0x6 => .decZp b1
  | 0x7 => .smb4 b1
  | 0x8 => .iny
  | 0x9 => .cmpImm b1
  | 0xA => .dex
  | 0xB => .rsvCB
  | 0xC => .cpyAbs (wordOf b1 b2)
  | 0xD => .cmpAbs (wordOf b1 b2)
  | 0xE => .decAbs (wordOf b1 b2)
  | _ => .bbs4 b1 b2

/-- Row D of the op-code map: op codes 0xD0 to 0xDF (R121). -/
def decodeRowD (column : Nat) (b1 b2 : Byte) : Instr :=
  match column with
  | 0x0 => .bne b1
  | 0x1 => .cmpIndY b1
  | 0x2 => .cmpInd b1
  | 0x3 => .rsvD3
  | 0x4 => .rsvD4 ⟨⟩
  | 0x5 => .cmpZpX b1
  | 0x6 => .decZpX b1
  | 0x7 => .smb5 b1
  | 0x8 => .cld
  | 0x9 => .cmpAbsY (wordOf b1 b2)
  | 0xA => .phx
  | 0xB => .rsvDB
  | 0xC => .rsvDC ⟨⟩ ⟨⟩
  | 0xD => .cmpAbsX (wordOf b1 b2)
  | 0xE => .decAbsX (wordOf b1 b2)
  | _ => .bbs5 b1 b2

/-- Row E of the op-code map: op codes 0xE0 to 0xEF (R121). -/
def decodeRowE (column : Nat) (b1 b2 : Byte) : Instr :=
  match column with
  | 0x0 => .cpxImm b1
  | 0x1 => .sbcIndX b1
  | 0x2 => .rsvE2 ⟨⟩
  | 0x3 => .rsvE3
  | 0x4 => .cpxZp b1
  | 0x5 => .sbcZp b1
  | 0x6 => .incZp b1
  | 0x7 => .smb6 b1
  | 0x8 => .inx
  | 0x9 => .sbcImm b1
  | 0xA => .nop
  | 0xB => .rsvEB
  | 0xC => .cpxAbs (wordOf b1 b2)
  | 0xD => .sbcAbs (wordOf b1 b2)
  | 0xE => .incAbs (wordOf b1 b2)
  | _ => .bbs6 b1 b2

/-- Row F of the op-code map: op codes 0xF0 to 0xFF (R121). -/
def decodeRowF (column : Nat) (b1 b2 : Byte) : Instr :=
  match column with
  | 0x0 => .beq b1
  | 0x1 => .sbcIndY b1
  | 0x2 => .sbcInd b1
  | 0x3 => .rsvF3
  | 0x4 => .rsvF4 ⟨⟩
  | 0x5 => .sbcZpX b1
  | 0x6 => .incZpX b1
  | 0x7 => .smb7 b1
  | 0x8 => .sed
  | 0x9 => .sbcAbsY (wordOf b1 b2)
  | 0xA => .plx
  | 0xB => .rsvFB
  | 0xC => .rsvFC ⟨⟩ ⟨⟩
  | 0xD => .sbcAbsX (wordOf b1 b2)
  | 0xE => .incAbsX (wordOf b1 b2)
  | _ => .bbs7 b1 b2

/-- The instruction that an op code and the two bytes after it are: lookup by row, the most significant hex digit, and
column, the least significant (R101, R121). -/
def decodeOp (op b1 b2 : Byte) : Instr :=
  let column := op.toNat % 16
  match op.toNat / 16 with
  | 0x0 => decodeRow0 column b1 b2
  | 0x1 => decodeRow1 column b1 b2
  | 0x2 => decodeRow2 column b1 b2
  | 0x3 => decodeRow3 column b1 b2
  | 0x4 => decodeRow4 column b1 b2
  | 0x5 => decodeRow5 column b1 b2
  | 0x6 => decodeRow6 column b1 b2
  | 0x7 => decodeRow7 column b1 b2
  | 0x8 => decodeRow8 column b1 b2
  | 0x9 => decodeRow9 column b1 b2
  | 0xA => decodeRowA column b1 b2
  | 0xB => decodeRowB column b1 b2
  | 0xC => decodeRowC column b1 b2
  | 0xD => decodeRowD column b1 b2
  | 0xE => decodeRowE column b1 b2
  | _ => decodeRowF column b1 b2

/-- The op code of an instruction (R121). -/
def opcode : Instr → Byte
  | .brk => 0x00
  | .oraIndX _ => 0x01
  | .rsv02 _ => 0x02
  | .rsv03 => 0x03
  | .tsbZp _ => 0x04
  | .oraZp _ => 0x05
  | .aslZp _ => 0x06
  | .rmb0 _ => 0x07
  | .php => 0x08
  | .oraImm _ => 0x09
  | .aslAcc => 0x0A
  | .rsv0B => 0x0B
  | .tsbAbs _ => 0x0C
  | .oraAbs _ => 0x0D
  | .aslAbs _ => 0x0E
  | .bbr0 _ _ => 0x0F
  | .bpl _ => 0x10
  | .oraIndY _ => 0x11
  | .oraInd _ => 0x12
  | .rsv13 => 0x13
  | .trbZp _ => 0x14
  | .oraZpX _ => 0x15
  | .aslZpX _ => 0x16
  | .rmb1 _ => 0x17
  | .clc => 0x18
  | .oraAbsY _ => 0x19
  | .incAcc => 0x1A
  | .rsv1B => 0x1B
  | .trbAbs _ => 0x1C
  | .oraAbsX _ => 0x1D
  | .aslAbsX _ => 0x1E
  | .bbr1 _ _ => 0x1F
  | .jsr _ => 0x20
  | .andIndX _ => 0x21
  | .rsv22 _ => 0x22
  | .rsv23 => 0x23
  | .bitZp _ => 0x24
  | .andZp _ => 0x25
  | .rolZp _ => 0x26
  | .rmb2 _ => 0x27
  | .plp => 0x28
  | .andImm _ => 0x29
  | .rolAcc => 0x2A
  | .rsv2B => 0x2B
  | .bitAbs _ => 0x2C
  | .andAbs _ => 0x2D
  | .rolAbs _ => 0x2E
  | .bbr2 _ _ => 0x2F
  | .bmi _ => 0x30
  | .andIndY _ => 0x31
  | .andInd _ => 0x32
  | .rsv33 => 0x33
  | .bitZpX _ => 0x34
  | .andZpX _ => 0x35
  | .rolZpX _ => 0x36
  | .rmb3 _ => 0x37
  | .sec => 0x38
  | .andAbsY _ => 0x39
  | .decAcc => 0x3A
  | .rsv3B => 0x3B
  | .bitAbsX _ => 0x3C
  | .andAbsX _ => 0x3D
  | .rolAbsX _ => 0x3E
  | .bbr3 _ _ => 0x3F
  | .rti => 0x40
  | .eorIndX _ => 0x41
  | .rsv42 _ => 0x42
  | .rsv43 => 0x43
  | .rsv44 _ => 0x44
  | .eorZp _ => 0x45
  | .lsrZp _ => 0x46
  | .rmb4 _ => 0x47
  | .pha => 0x48
  | .eorImm _ => 0x49
  | .lsrAcc => 0x4A
  | .rsv4B => 0x4B
  | .jmpAbs _ => 0x4C
  | .eorAbs _ => 0x4D
  | .lsrAbs _ => 0x4E
  | .bbr4 _ _ => 0x4F
  | .bvc _ => 0x50
  | .eorIndY _ => 0x51
  | .eorInd _ => 0x52
  | .rsv53 => 0x53
  | .rsv54 _ => 0x54
  | .eorZpX _ => 0x55
  | .lsrZpX _ => 0x56
  | .rmb5 _ => 0x57
  | .cli => 0x58
  | .eorAbsY _ => 0x59
  | .phy => 0x5A
  | .rsv5B => 0x5B
  | .rsv5C _ _ => 0x5C
  | .eorAbsX _ => 0x5D
  | .lsrAbsX _ => 0x5E
  | .bbr5 _ _ => 0x5F
  | .rts => 0x60
  | .adcIndX _ => 0x61
  | .rsv62 _ => 0x62
  | .rsv63 => 0x63
  | .stzZp _ => 0x64
  | .adcZp _ => 0x65
  | .rorZp _ => 0x66
  | .rmb6 _ => 0x67
  | .pla => 0x68
  | .adcImm _ => 0x69
  | .rorAcc => 0x6A
  | .rsv6B => 0x6B
  | .jmpInd _ => 0x6C
  | .adcAbs _ => 0x6D
  | .rorAbs _ => 0x6E
  | .bbr6 _ _ => 0x6F
  | .bvs _ => 0x70
  | .adcIndY _ => 0x71
  | .adcInd _ => 0x72
  | .rsv73 => 0x73
  | .stzZpX _ => 0x74
  | .adcZpX _ => 0x75
  | .rorZpX _ => 0x76
  | .rmb7 _ => 0x77
  | .sei => 0x78
  | .adcAbsY _ => 0x79
  | .ply => 0x7A
  | .rsv7B => 0x7B
  | .jmpIndX _ => 0x7C
  | .adcAbsX _ => 0x7D
  | .rorAbsX _ => 0x7E
  | .bbr7 _ _ => 0x7F
  | .bra _ => 0x80
  | .staIndX _ => 0x81
  | .rsv82 _ => 0x82
  | .rsv83 => 0x83
  | .styZp _ => 0x84
  | .staZp _ => 0x85
  | .stxZp _ => 0x86
  | .smb0 _ => 0x87
  | .dey => 0x88
  | .bitImm _ => 0x89
  | .txa => 0x8A
  | .rsv8B => 0x8B
  | .styAbs _ => 0x8C
  | .staAbs _ => 0x8D
  | .stxAbs _ => 0x8E
  | .bbs0 _ _ => 0x8F
  | .bcc _ => 0x90
  | .staIndY _ => 0x91
  | .staInd _ => 0x92
  | .rsv93 => 0x93
  | .styZpX _ => 0x94
  | .staZpX _ => 0x95
  | .stxZpY _ => 0x96
  | .smb1 _ => 0x97
  | .tya => 0x98
  | .staAbsY _ => 0x99
  | .txs => 0x9A
  | .rsv9B => 0x9B
  | .stzAbs _ => 0x9C
  | .staAbsX _ => 0x9D
  | .stzAbsX _ => 0x9E
  | .bbs1 _ _ => 0x9F
  | .ldyImm _ => 0xA0
  | .ldaIndX _ => 0xA1
  | .ldxImm _ => 0xA2
  | .rsvA3 => 0xA3
  | .ldyZp _ => 0xA4
  | .ldaZp _ => 0xA5
  | .ldxZp _ => 0xA6
  | .smb2 _ => 0xA7
  | .tay => 0xA8
  | .ldaImm _ => 0xA9
  | .tax => 0xAA
  | .rsvAB => 0xAB
  | .ldyAbs _ => 0xAC
  | .ldaAbs _ => 0xAD
  | .ldxAbs _ => 0xAE
  | .bbs2 _ _ => 0xAF
  | .bcs _ => 0xB0
  | .ldaIndY _ => 0xB1
  | .ldaInd _ => 0xB2
  | .rsvB3 => 0xB3
  | .ldyZpX _ => 0xB4
  | .ldaZpX _ => 0xB5
  | .ldxZpY _ => 0xB6
  | .smb3 _ => 0xB7
  | .clv => 0xB8
  | .ldaAbsY _ => 0xB9
  | .tsx => 0xBA
  | .rsvBB => 0xBB
  | .ldyAbsX _ => 0xBC
  | .ldaAbsX _ => 0xBD
  | .ldxAbsY _ => 0xBE
  | .bbs3 _ _ => 0xBF
  | .cpyImm _ => 0xC0
  | .cmpIndX _ => 0xC1
  | .rsvC2 _ => 0xC2
  | .rsvC3 => 0xC3
  | .cpyZp _ => 0xC4
  | .cmpZp _ => 0xC5
  | .decZp _ => 0xC6
  | .smb4 _ => 0xC7
  | .iny => 0xC8
  | .cmpImm _ => 0xC9
  | .dex => 0xCA
  | .rsvCB => 0xCB
  | .cpyAbs _ => 0xCC
  | .cmpAbs _ => 0xCD
  | .decAbs _ => 0xCE
  | .bbs4 _ _ => 0xCF
  | .bne _ => 0xD0
  | .cmpIndY _ => 0xD1
  | .cmpInd _ => 0xD2
  | .rsvD3 => 0xD3
  | .rsvD4 _ => 0xD4
  | .cmpZpX _ => 0xD5
  | .decZpX _ => 0xD6
  | .smb5 _ => 0xD7
  | .cld => 0xD8
  | .cmpAbsY _ => 0xD9
  | .phx => 0xDA
  | .rsvDB => 0xDB
  | .rsvDC _ _ => 0xDC
  | .cmpAbsX _ => 0xDD
  | .decAbsX _ => 0xDE
  | .bbs5 _ _ => 0xDF
  | .cpxImm _ => 0xE0
  | .sbcIndX _ => 0xE1
  | .rsvE2 _ => 0xE2
  | .rsvE3 => 0xE3
  | .cpxZp _ => 0xE4
  | .sbcZp _ => 0xE5
  | .incZp _ => 0xE6
  | .smb6 _ => 0xE7
  | .inx => 0xE8
  | .sbcImm _ => 0xE9
  | .nop => 0xEA
  | .rsvEB => 0xEB
  | .cpxAbs _ => 0xEC
  | .sbcAbs _ => 0xED
  | .incAbs _ => 0xEE
  | .bbs6 _ _ => 0xEF
  | .beq _ => 0xF0
  | .sbcIndY _ => 0xF1
  | .sbcInd _ => 0xF2
  | .rsvF3 => 0xF3
  | .rsvF4 _ => 0xF4
  | .sbcZpX _ => 0xF5
  | .incZpX _ => 0xF6
  | .smb7 _ => 0xF7
  | .sed => 0xF8
  | .sbcAbsY _ => 0xF9
  | .plx => 0xFA
  | .rsvFB => 0xFB
  | .rsvFC _ _ => 0xFC
  | .sbcAbsX _ => 0xFD
  | .incAbsX _ => 0xFE
  | .bbs7 _ _ => 0xFF

/-- The operand bytes of an instruction in memory order (R103): none in F1, one in F2, the low byte of the word before
its high byte in F3, the page-zero address before the offset in F3ZR. An unassigned op code skips as many bytes as its
`RsvLen` asks for, whatever they are; here they are zeros (R125, R270, log 4). -/
def operandBytes : Instr → List Byte
  | .brk => []
  | .oraIndX zp => [zp]
  | .rsv02 _ => List.replicate (Config.rsvLen 0x02 - 1) 0x00
  | .rsv03 => List.replicate (Config.rsvLen 0x03 - 1) 0x00
  | .tsbZp zp => [zp]
  | .oraZp zp => [zp]
  | .aslZp zp => [zp]
  | .rmb0 zp => [zp]
  | .php => []
  | .oraImm imm => [imm]
  | .aslAcc => []
  | .rsv0B => List.replicate (Config.rsvLen 0x0B - 1) 0x00
  | .tsbAbs addr => [lowByte addr, highByte addr]
  | .oraAbs addr => [lowByte addr, highByte addr]
  | .aslAbs addr => [lowByte addr, highByte addr]
  | .bbr0 zp rel => [zp, rel]
  | .bpl rel => [rel]
  | .oraIndY zp => [zp]
  | .oraInd zp => [zp]
  | .rsv13 => List.replicate (Config.rsvLen 0x13 - 1) 0x00
  | .trbZp zp => [zp]
  | .oraZpX zp => [zp]
  | .aslZpX zp => [zp]
  | .rmb1 zp => [zp]
  | .clc => []
  | .oraAbsY addr => [lowByte addr, highByte addr]
  | .incAcc => []
  | .rsv1B => List.replicate (Config.rsvLen 0x1B - 1) 0x00
  | .trbAbs addr => [lowByte addr, highByte addr]
  | .oraAbsX addr => [lowByte addr, highByte addr]
  | .aslAbsX addr => [lowByte addr, highByte addr]
  | .bbr1 zp rel => [zp, rel]
  | .jsr addr => [lowByte addr, highByte addr]
  | .andIndX zp => [zp]
  | .rsv22 _ => List.replicate (Config.rsvLen 0x22 - 1) 0x00
  | .rsv23 => List.replicate (Config.rsvLen 0x23 - 1) 0x00
  | .bitZp zp => [zp]
  | .andZp zp => [zp]
  | .rolZp zp => [zp]
  | .rmb2 zp => [zp]
  | .plp => []
  | .andImm imm => [imm]
  | .rolAcc => []
  | .rsv2B => List.replicate (Config.rsvLen 0x2B - 1) 0x00
  | .bitAbs addr => [lowByte addr, highByte addr]
  | .andAbs addr => [lowByte addr, highByte addr]
  | .rolAbs addr => [lowByte addr, highByte addr]
  | .bbr2 zp rel => [zp, rel]
  | .bmi rel => [rel]
  | .andIndY zp => [zp]
  | .andInd zp => [zp]
  | .rsv33 => List.replicate (Config.rsvLen 0x33 - 1) 0x00
  | .bitZpX zp => [zp]
  | .andZpX zp => [zp]
  | .rolZpX zp => [zp]
  | .rmb3 zp => [zp]
  | .sec => []
  | .andAbsY addr => [lowByte addr, highByte addr]
  | .decAcc => []
  | .rsv3B => List.replicate (Config.rsvLen 0x3B - 1) 0x00
  | .bitAbsX addr => [lowByte addr, highByte addr]
  | .andAbsX addr => [lowByte addr, highByte addr]
  | .rolAbsX addr => [lowByte addr, highByte addr]
  | .bbr3 zp rel => [zp, rel]
  | .rti => []
  | .eorIndX zp => [zp]
  | .rsv42 _ => List.replicate (Config.rsvLen 0x42 - 1) 0x00
  | .rsv43 => List.replicate (Config.rsvLen 0x43 - 1) 0x00
  | .rsv44 _ => List.replicate (Config.rsvLen 0x44 - 1) 0x00
  | .eorZp zp => [zp]
  | .lsrZp zp => [zp]
  | .rmb4 zp => [zp]
  | .pha => []
  | .eorImm imm => [imm]
  | .lsrAcc => []
  | .rsv4B => List.replicate (Config.rsvLen 0x4B - 1) 0x00
  | .jmpAbs addr => [lowByte addr, highByte addr]
  | .eorAbs addr => [lowByte addr, highByte addr]
  | .lsrAbs addr => [lowByte addr, highByte addr]
  | .bbr4 zp rel => [zp, rel]
  | .bvc rel => [rel]
  | .eorIndY zp => [zp]
  | .eorInd zp => [zp]
  | .rsv53 => List.replicate (Config.rsvLen 0x53 - 1) 0x00
  | .rsv54 _ => List.replicate (Config.rsvLen 0x54 - 1) 0x00
  | .eorZpX zp => [zp]
  | .lsrZpX zp => [zp]
  | .rmb5 zp => [zp]
  | .cli => []
  | .eorAbsY addr => [lowByte addr, highByte addr]
  | .phy => []
  | .rsv5B => List.replicate (Config.rsvLen 0x5B - 1) 0x00
  | .rsv5C _ _ => List.replicate (Config.rsvLen 0x5C - 1) 0x00
  | .eorAbsX addr => [lowByte addr, highByte addr]
  | .lsrAbsX addr => [lowByte addr, highByte addr]
  | .bbr5 zp rel => [zp, rel]
  | .rts => []
  | .adcIndX zp => [zp]
  | .rsv62 _ => List.replicate (Config.rsvLen 0x62 - 1) 0x00
  | .rsv63 => List.replicate (Config.rsvLen 0x63 - 1) 0x00
  | .stzZp zp => [zp]
  | .adcZp zp => [zp]
  | .rorZp zp => [zp]
  | .rmb6 zp => [zp]
  | .pla => []
  | .adcImm imm => [imm]
  | .rorAcc => []
  | .rsv6B => List.replicate (Config.rsvLen 0x6B - 1) 0x00
  | .jmpInd addr => [lowByte addr, highByte addr]
  | .adcAbs addr => [lowByte addr, highByte addr]
  | .rorAbs addr => [lowByte addr, highByte addr]
  | .bbr6 zp rel => [zp, rel]
  | .bvs rel => [rel]
  | .adcIndY zp => [zp]
  | .adcInd zp => [zp]
  | .rsv73 => List.replicate (Config.rsvLen 0x73 - 1) 0x00
  | .stzZpX zp => [zp]
  | .adcZpX zp => [zp]
  | .rorZpX zp => [zp]
  | .rmb7 zp => [zp]
  | .sei => []
  | .adcAbsY addr => [lowByte addr, highByte addr]
  | .ply => []
  | .rsv7B => List.replicate (Config.rsvLen 0x7B - 1) 0x00
  | .jmpIndX addr => [lowByte addr, highByte addr]
  | .adcAbsX addr => [lowByte addr, highByte addr]
  | .rorAbsX addr => [lowByte addr, highByte addr]
  | .bbr7 zp rel => [zp, rel]
  | .bra rel => [rel]
  | .staIndX zp => [zp]
  | .rsv82 _ => List.replicate (Config.rsvLen 0x82 - 1) 0x00
  | .rsv83 => List.replicate (Config.rsvLen 0x83 - 1) 0x00
  | .styZp zp => [zp]
  | .staZp zp => [zp]
  | .stxZp zp => [zp]
  | .smb0 zp => [zp]
  | .dey => []
  | .bitImm imm => [imm]
  | .txa => []
  | .rsv8B => List.replicate (Config.rsvLen 0x8B - 1) 0x00
  | .styAbs addr => [lowByte addr, highByte addr]
  | .staAbs addr => [lowByte addr, highByte addr]
  | .stxAbs addr => [lowByte addr, highByte addr]
  | .bbs0 zp rel => [zp, rel]
  | .bcc rel => [rel]
  | .staIndY zp => [zp]
  | .staInd zp => [zp]
  | .rsv93 => List.replicate (Config.rsvLen 0x93 - 1) 0x00
  | .styZpX zp => [zp]
  | .staZpX zp => [zp]
  | .stxZpY zp => [zp]
  | .smb1 zp => [zp]
  | .tya => []
  | .staAbsY addr => [lowByte addr, highByte addr]
  | .txs => []
  | .rsv9B => List.replicate (Config.rsvLen 0x9B - 1) 0x00
  | .stzAbs addr => [lowByte addr, highByte addr]
  | .staAbsX addr => [lowByte addr, highByte addr]
  | .stzAbsX addr => [lowByte addr, highByte addr]
  | .bbs1 zp rel => [zp, rel]
  | .ldyImm imm => [imm]
  | .ldaIndX zp => [zp]
  | .ldxImm imm => [imm]
  | .rsvA3 => List.replicate (Config.rsvLen 0xA3 - 1) 0x00
  | .ldyZp zp => [zp]
  | .ldaZp zp => [zp]
  | .ldxZp zp => [zp]
  | .smb2 zp => [zp]
  | .tay => []
  | .ldaImm imm => [imm]
  | .tax => []
  | .rsvAB => List.replicate (Config.rsvLen 0xAB - 1) 0x00
  | .ldyAbs addr => [lowByte addr, highByte addr]
  | .ldaAbs addr => [lowByte addr, highByte addr]
  | .ldxAbs addr => [lowByte addr, highByte addr]
  | .bbs2 zp rel => [zp, rel]
  | .bcs rel => [rel]
  | .ldaIndY zp => [zp]
  | .ldaInd zp => [zp]
  | .rsvB3 => List.replicate (Config.rsvLen 0xB3 - 1) 0x00
  | .ldyZpX zp => [zp]
  | .ldaZpX zp => [zp]
  | .ldxZpY zp => [zp]
  | .smb3 zp => [zp]
  | .clv => []
  | .ldaAbsY addr => [lowByte addr, highByte addr]
  | .tsx => []
  | .rsvBB => List.replicate (Config.rsvLen 0xBB - 1) 0x00
  | .ldyAbsX addr => [lowByte addr, highByte addr]
  | .ldaAbsX addr => [lowByte addr, highByte addr]
  | .ldxAbsY addr => [lowByte addr, highByte addr]
  | .bbs3 zp rel => [zp, rel]
  | .cpyImm imm => [imm]
  | .cmpIndX zp => [zp]
  | .rsvC2 _ => List.replicate (Config.rsvLen 0xC2 - 1) 0x00
  | .rsvC3 => List.replicate (Config.rsvLen 0xC3 - 1) 0x00
  | .cpyZp zp => [zp]
  | .cmpZp zp => [zp]
  | .decZp zp => [zp]
  | .smb4 zp => [zp]
  | .iny => []
  | .cmpImm imm => [imm]
  | .dex => []
  | .rsvCB => List.replicate (Config.rsvLen 0xCB - 1) 0x00
  | .cpyAbs addr => [lowByte addr, highByte addr]
  | .cmpAbs addr => [lowByte addr, highByte addr]
  | .decAbs addr => [lowByte addr, highByte addr]
  | .bbs4 zp rel => [zp, rel]
  | .bne rel => [rel]
  | .cmpIndY zp => [zp]
  | .cmpInd zp => [zp]
  | .rsvD3 => List.replicate (Config.rsvLen 0xD3 - 1) 0x00
  | .rsvD4 _ => List.replicate (Config.rsvLen 0xD4 - 1) 0x00
  | .cmpZpX zp => [zp]
  | .decZpX zp => [zp]
  | .smb5 zp => [zp]
  | .cld => []
  | .cmpAbsY addr => [lowByte addr, highByte addr]
  | .phx => []
  | .rsvDB => List.replicate (Config.rsvLen 0xDB - 1) 0x00
  | .rsvDC _ _ => List.replicate (Config.rsvLen 0xDC - 1) 0x00
  | .cmpAbsX addr => [lowByte addr, highByte addr]
  | .decAbsX addr => [lowByte addr, highByte addr]
  | .bbs5 zp rel => [zp, rel]
  | .cpxImm imm => [imm]
  | .sbcIndX zp => [zp]
  | .rsvE2 _ => List.replicate (Config.rsvLen 0xE2 - 1) 0x00
  | .rsvE3 => List.replicate (Config.rsvLen 0xE3 - 1) 0x00
  | .cpxZp zp => [zp]
  | .sbcZp zp => [zp]
  | .incZp zp => [zp]
  | .smb6 zp => [zp]
  | .inx => []
  | .sbcImm imm => [imm]
  | .nop => []
  | .rsvEB => List.replicate (Config.rsvLen 0xEB - 1) 0x00
  | .cpxAbs addr => [lowByte addr, highByte addr]
  | .sbcAbs addr => [lowByte addr, highByte addr]
  | .incAbs addr => [lowByte addr, highByte addr]
  | .bbs6 zp rel => [zp, rel]
  | .beq rel => [rel]
  | .sbcIndY zp => [zp]
  | .sbcInd zp => [zp]
  | .rsvF3 => List.replicate (Config.rsvLen 0xF3 - 1) 0x00
  | .rsvF4 _ => List.replicate (Config.rsvLen 0xF4 - 1) 0x00
  | .sbcZpX zp => [zp]
  | .incZpX zp => [zp]
  | .smb7 zp => [zp]
  | .sed => []
  | .sbcAbsY addr => [lowByte addr, highByte addr]
  | .plx => []
  | .rsvFB => List.replicate (Config.rsvLen 0xFB - 1) 0x00
  | .rsvFC _ _ => List.replicate (Config.rsvLen 0xFC - 1) 0x00
  | .sbcAbsX addr => [lowByte addr, highByte addr]
  | .incAbsX addr => [lowByte addr, highByte addr]
  | .bbs7 zp rel => [zp, rel]

/-- The bytes of an instruction in memory order (R100, R103). -/
def encode (i : Instr) : List Byte := opcode i :: operandBytes i

/-- Why a string of bytes is not decoded. No op code is refused: all 256 have a meaning (R121, R124). -/
inductive DecodeError where
  /-- There is no byte at all. -/
  | empty
  /-- The op code needs more operand bytes than follow it (R101). -/
  | truncated (op : Byte)
deriving DecidableEq, Repr

/-- The first instruction of a string of bytes and the bytes after it (R100 to R102). -/
def decode : List Byte → Except DecodeError (Instr × List Byte)
  | [] => .error .empty
  | op :: rest =>
    if rest.length + 1 < opLength op then .error (.truncated op)
    else .ok (decodeOp op (rest.getD 0 0) (rest.getD 1 0), rest.drop (opLength op - 1))

/-- The instruction is spelled by well-formed bytes. -/
def Instr.WellFormed (i : Instr) : Prop := wellFormed (encode i) = true

/-- Byte `k` of an instruction's bits as the op-code table numbers them: byte 0 is bits 7 to 0. -/
def tableByte (w k : Nat) : Byte := BitVec.ofNat 8 (w / 256 ^ k)

/-- The bytes of an instruction whose bits are `w`: as many as the table gives the row, and zeros up to the longest
instruction. -/
def tableBytes (nbits w : Nat) : List Byte :=
  (List.range 3).map fun k => if 8 * k < nbits then tableByte w k else 0

/-- What the decoder reads from an instruction whose bits are `w`: as the fetch does, from the op code and the two bytes
after it. -/
def decodeTableWord (nbits w : Nat) : Option Instr :=
  let bytes := tableBytes nbits w
  some (decodeOp (bytes.getD 0 0) (bytes.getD 1 0) (bytes.getD 2 0))

end Sys2Proof
end

