-- ==== Sys2Proof/Machine/State.lean ====
section
/-! DEFINITION. The state of the machine as plain data (R20, R41, R42, R60), the pins and their schedule
(R3, R6, R42), the reasons a step can stop, and the state after reset (R44). -/

namespace Sys2Proof.Machine

/-- The stored flags of the status register `P` (R29, R30). Bits 4 and 5 of `P` hold no state (R35, R36). -/
structure Flags where
  /-- Negative, bit 7 of `P` (R38). -/
  n : Bool
  /-- Overflow, bit 6 of `P` (R37). -/
  v : Bool
  /-- Decimal mode, bit 3 of `P` (R34). -/
  d : Bool
  /-- Interrupt disable, bit 2 of `P` (R33). -/
  i : Bool
  /-- Zero, bit 1 of `P` (R32). -/
  z : Bool
  /-- Carry, bit 0 of `P` (R31). -/
  c : Bool
deriving DecidableEq, Repr

/-- Memory as the listed (address, byte) pairs; what an unlisted address reads as is `Memory.fill`. -/
abbrev Memory := List Host.Cell

/-- The clock input (R319, R357). -/
inductive Clock where
  /-- The clock runs. -/
  | running
  /-- Stopped in the high state: standby, all state kept (R319). -/
  | heldHigh
  /-- Held in the low state longer than 5 microseconds: internal state can be lost (R43, R357). -/
  | heldLow
deriving DecidableEq, Repr

/-- The levels of the input pins, `true` for high (R42, R302, R303, R314, R315, R317, R319, R350). -/
structure Pins where
  irq : Bool
  nmi : Bool
  so : Bool
  rdy : Bool
  be : Bool
  res : Bool
  clock : Clock
deriving DecidableEq, Repr

/-- No pin asserted and the clock running: the default environment after the initial reset (D7, log 8). -/
def Pins.inactive : Pins :=
  { irq := true, nmi := true, so := true, rdy := true, be := true, res := true, clock := .running }

/-- What the environment can do at an instruction boundary (R3, R6, R10). A pin event gives the pin's new level. -/
inductive PinEvent where
  /-- The IRQ input goes to this level (R302). -/
  | irq (high : Bool)
  /-- The NMI input goes to this level; its negative edge is remembered (R303). -/
  | nmi (high : Bool)
  /-- The SO input goes to this level; its negative edge sets V (R315). -/
  | so (high : Bool)
  /-- The RDY input goes to this level (R314). -/
  | rdy (high : Bool)
  /-- The BE input goes to this level (R317). -/
  | be (high : Bool)
  /-- The RES input goes to this level; its positive edge requests the reset sequence (R350). -/
  | res (high : Bool)
  /-- The clock input is started, stopped, or lost (R319, R357). -/
  | clock (c : Clock)
  /-- Another bus master writes a byte (R77). -/
  | busWrite (addr : Word) (value : Byte)
deriving DecidableEq, Repr

/-- What stands at an address (R6 `Platform`, R62). -/
inductive Kind where
  /-- A read gives what was last written (R62). -/
  | ram
  /-- A write has no effect (R62). -/
  | rom
  /-- Reads and writes mean what the device makes of them (R62). -/
  | device
  /-- Nothing responds (D21). -/
  | nothing
deriving DecidableEq, Repr

/-- A range of addresses of one kind, both ends included (R6 `Platform`, R68). -/
structure Region where
  first : Word
  last : Word
  kind : Kind
deriving DecidableEq, Repr

/-- A write by another bus master within a step, after the CPU's accesses at earlier places of the step and before
those at the place `before` and later (R77, log 18). -/
structure MasterWrite where
  before : Fin 12
  addr : Word
  value : Byte
deriving DecidableEq, Repr

/-- What the environment does at one boundary and within the step that follows it. -/
structure Boundary where
  /-- The pin events, in order. -/
  events : List PinEvent
  /-- What other bus masters write within the step, in order (R10, R77). -/
  writesWithin : List MasterWrite
  /-- Do not recognise at this boundary an IRQ that a CLI or PLP has just unmasked (R304 (d), D24). -/
  deferIrq : Bool
  /-- SO falls within the instruction, interrupt entry or reset sequence this step runs (R315). -/
  soWithin : Bool
  /-- RES falls within the instruction, interrupt entry or reset sequence this step runs (R350). -/
  resWithin : Bool
deriving DecidableEq, Repr

/-- A boundary at which nothing happens. -/
def Boundary.quiet : Boundary :=
  { events := [], writesWithin := [], deferIrq := false, soWithin := false, resWithin := false }

/-- One bus access with its output labels (R61). -/
structure BusAccess where
  /-- When in the step it is made: the model's own, no pin (log 18). -/
  place : Nat
  addr : Word
  value : Byte
  /-- `true` for a write (R/W low), `false` for a read (R61). -/
  write : Bool
  /-- The fetch of an op code (R61, R316). -/
  sync : Bool
  /-- The interval in which a device that has the ML pin drives it low (R73, R318). -/
  ml : Bool
deriving DecidableEq, Repr

/-- Everything the spec gives the machine, and the counters and marks of the model's own (INVENTORY.md). -/
structure State where
  /-- The accumulator `A` (R21). -/
  a : Byte
  /-- The index register `X` (R22). -/
  x : Byte
  /-- The index register `Y` (R22). -/
  y : Byte
  /-- The stack pointer `S` (R23). -/
  sp : Byte
  /-- The program counter `PC` (R27). -/
  pc : Word
  /-- The status register `P` (R29, R30). -/
  p : Flags
  /-- The 65536 bytes of memory (R60, log 1). -/
  mem : Memory
  /-- What stands at each address: the first region that holds it, and RAM where none does (R6 `Platform`, R62, R68,
  log 1). No step changes it. -/
  platform : List Region
  /-- An NMI edge not yet taken (R42 (a)). -/
  nmiPending : Bool
  /-- A positive edge on RES whose sequence has not yet run (R42 (d), R350). -/
  resPending : Bool
  /-- RES has been low for a step, which stands for the two cycles of R350 (log 14). -/
  resHeld : Bool
  /-- The instruction just completed was a CLI or PLP that cleared I (R304 (d), log 9). -/
  irqShadow : Bool
  /-- The clock stood low too long and no reset has followed (R43, R357, log 15). -/
  stateLost : Bool
  /-- The levels of the input pins (R42). -/
  pins : Pins
  /-- What the environment does at the coming boundaries, the next first (R6 `Environment`). -/
  schedule : List Boundary
  /-- The instruction register: the op code last fetched (R41, log 24). -/
  ir : Byte
  /-- The timing control unit: the cycles of the last instruction or sequence (R41, log 24). -/
  tcu : Nat
  /-- Machine cycles since reset (R360, log 20). -/
  cycles : Nat
  /-- The bus accesses of the last step, in order (R61, log 19); within a step, the writes made so far. -/
  bus : List BusAccess
  /-- What other bus masters will still write within the step under way (R77, log 18). -/
  dma : List MasterWrite
  /-- How many steps have begun: each step draws its free values by this count (log 3). -/
  draws : Nat
deriving DecidableEq, Repr

/-- No instruction faults: the hardware has no synchronous fault (R301). -/
inductive Fault
deriving DecidableEq, Repr

/-- Why a step gives no next state. All but the first are raised by the step, never by an instruction's meaning. -/
inductive Refusal where
  /-- The instruction has no meaning yet; raised by an arm of `exec`. Safe. -/
  | notModelled (mnemonic : String)
  /-- BE is low while neither RDY, RES nor the clock holds the CPU, which would run on a bus it does not drive:
  outside the supported environment (R317, D17, U12). Raised by the step. Safe. -/
  | busDisabled
  /-- RES went high again before it had been low for two cycles: no specified effect (R350, U11). Raised by the
  step. Safe. -/
  | resetPulseTooShort
  /-- The clock stood low longer than 5 microseconds and no reset has followed: every register may be lost, and the
  only defined way forward is a reset (R357, U9). Raised by the step. Safe. -/
  | stateLost
deriving DecidableEq, Repr

/-- What an instruction or a step answers. -/
abbrev Out := Host.Outcome State Fault Refusal

/-- The machine right after the reset sequence (R44, R351, R352): I set, D clear, no NMI pending, `pc` the word at
0xFFFC of a memory with nothing listed (`Sys2Proof.Laws.reset_pc_is_vector`). The registers and flags the spec gives
no value for are zero: DESIGN CHOICE, unsafe (log 2). -/
def State.reset : State :=
  { a := 0x00, x := 0x00, y := 0x00, sp := 0x00, pc := 0x0000
    p := { n := false, v := false, d := false, i := true, z := false, c := false }
    mem := []
    platform := []
    nmiPending := false, resPending := false, resHeld := false, irqShadow := false, stateLost := false
    pins := Pins.inactive
    schedule := []
    ir := 0x00, tcu := 0, cycles := 0
    bus := []
    dma := []
    draws := 0 }

end Sys2Proof.Machine
end

