-- ==== Sys2Proof/Machine/Flags.lean ====
section
/-! DEFINITION. Every flag computation and every 8-bit result of the instruction rules: `SetNZ` (R9), `PImage` and
`SetP` (R39, R40), the binary and decimal sums and differences (R160 to R163), `Compare` (R164), the shifts and
rotates (R194 to R197). -/

namespace Sys2Proof.Machine

/-- `SetNZ(v)` (R9). -/
def Flags.setNZ (p : Flags) (v : Byte) : Flags :=
  { p with n := v.msb, z := v == 0 }

/-- `PImage(b)`, the byte pushed for `P`: N V 1 b D I Z C from bit 7 down (R39). -/
def Flags.image (p : Flags) (b : Bool) : Byte :=
  BitVec.ofBoolListBE [p.n, p.v, true, b, p.d, p.i, p.z, p.c]

/-- `SetP(v)`: the flags a pulled byte gives; its bits 5 and 4 are discarded (R40). -/
def Flags.ofByte (v : Byte) : Flags :=
  { n := v.getLsbD 7, v := v.getLsbD 6, d := v.getLsbD 3, i := v.getLsbD 2, z := v.getLsbD 1, c := v.getLsbD 0 }

/-- What a binary sum or difference yields: the `(r, C', V')` of R160 and R161. -/
structure BinResult where
  result : Byte
  carry : Bool
  overflow : Bool
deriving DecidableEq, Repr

/-- `AddBin(a, m, c)` (R160). -/
def addBin (a m : Byte) (c : Bool) : BinResult :=
  let s := a.toNat + m.toNat + c.toNat
  let r := BitVec.ofNat 8 s
  { result := r, carry := decide (255 < s), overflow := a.msb == m.msb && r.msb != a.msb }

/-- `SubBin(a, m, c)`, `c` the inverse of the borrow (R161). -/
def subBin (a m : Byte) (c : Bool) : BinResult :=
  let d : Int := (a.toNat : Int) - m.toNat - (1 - c.toNat)
  let r := BitVec.ofInt 8 d
  { result := r, carry := decide (0 ≤ d), overflow := a.msb != m.msb && r.msb != a.msb }

/-- A byte is valid BCD when both nibbles are 0 to 9 (R162). -/
def bcdValid (v : Byte) : Bool :=
  decide (v.toNat / 16 ≤ 9) && decide (v.toNat % 16 ≤ 9)

/-- `val(x)` of a valid BCD byte (R162). -/
def bcdVal (v : Byte) : Nat :=
  10 * (v.toNat / 16) + v.toNat % 16

/-- `bcd(n)` for `n` up to 99, the inverse of `val` (R162). -/
def toBcd (n : Nat) : Byte :=
  BitVec.ofNat 8 (16 * (n / 10) + n % 10)

/-- `AddDec(a, m, c)` (R162). V is the free `DecimalV` (log 5); all five are free on an operand that is not valid BCD
(log 6). -/
def addDec (a m : Byte) (c : Bool) : Config.DecimalResult :=
  if bcdValid a && bcdValid m then
    let s := bcdVal a + bcdVal m + c.toNat
    let r := toBcd (s % 100)
    { result := r, carry := decide (100 ≤ s), overflow := Config.decimalV a m c .add
      negative := r.msb, zero := r == 0 }
  else Config.decimalInvalid a m c .add

/-- `SubDec(a, m, c)` (R163). V and an operand that is not valid BCD as in `addDec`. -/
def subDec (a m : Byte) (c : Bool) : Config.DecimalResult :=
  if bcdValid a && bcdValid m then
    let d : Int := (bcdVal a : Int) - bcdVal m - (1 - c.toNat)
    let r := toBcd (d % 100).toNat
    { result := r, carry := decide (0 ≤ d), overflow := Config.decimalV a m c .sub
      negative := r.msb, zero := r == 0 }
  else Config.decimalInvalid a m c .sub

/-- N, V, Z, C after a binary ADC or SBC (R165, R166): C and V of the sum, N and Z of its result. -/
def Flags.ofBin (p : Flags) (r : BinResult) : Flags :=
  { p.setNZ r.result with c := r.carry, v := r.overflow }

/-- N, V, Z, C after a decimal ADC or SBC (R165, R166). -/
def Flags.ofDec (p : Flags) (r : Config.DecimalResult) : Flags :=
  { p with n := r.negative, v := r.overflow, z := r.zero, c := r.carry }

/-- `Compare(r, m)`: always binary, the incoming carry not used, V unchanged (R164). -/
def Flags.compare (p : Flags) (r m : Byte) : Flags :=
  { p with c := decide (m.toNat ≤ r.toNat), z := r == m, n := (r - m).msb }

/-- The Z of BIT, TRB and TSB, from the AND of `A` and the operand (R193, R198, R199). -/
def Flags.testZ (p : Flags) (a m : Byte) : Flags :=
  { p with z := a &&& m == 0 }

/-- What a shift or rotate yields: the result and the bit shifted out. -/
structure Shifted where
  result : Byte
  carry : Bool
deriving DecidableEq, Repr

/-- ASL: bit 0 becomes 0, bit 7 leaves into C (R194). -/
def shiftLeft (v : Byte) : Shifted :=
  { result := v <<< 1, carry := v.msb }

/-- LSR: bit 7 becomes 0, bit 0 leaves into C (R195). -/
def shiftRight (v : Byte) : Shifted :=
  { result := v >>> 1, carry := v.getLsbD 0 }

/-- ROL: the old C enters bit 0, bit 7 leaves into C (R196). -/
def rotateLeft (c : Bool) (v : Byte) : Shifted :=
  { result := v <<< 1 ||| (if c then 0x01 else 0x00), carry := v.msb }

/-- ROR: the old C enters bit 7, bit 0 leaves into C (R197). -/
def rotateRight (c : Bool) (v : Byte) : Shifted :=
  { result := v >>> 1 ||| (if c then 0x80 else 0x00), carry := v.getLsbD 0 }

/-- N, Z, C after a shift or rotate (R194 to R197). -/
def Flags.ofShift (p : Flags) (r : Shifted) : Flags :=
  { p.setNZ r.result with c := r.carry }

end Sys2Proof.Machine
end

