-- ==== Sys2Proof/Machine/Ops.lean ====
section
/-! DEFINITION. The named operations over memory, the stack and the program counter, the one entry sequence of
interrupts and BRK with the return from it, and the reset sequence. -/

namespace Sys2Proof.Machine

/-- What an address reads as that nothing has written. DESIGN CHOICE, unsafe: the source says nothing of memory's
contents at power-on (R352, D1, log 1). -/
def Memory.fill : Byte := 0x00

/-- One byte of memory (R62 for plain memory, D1, log 1). -/
def Memory.read : Memory → Nat → Byte
  | [], _ => Memory.fill
  | (k, v) :: rest, addr => if k = addr then v else Memory.read rest addr

/-- The list without its entries at an address. -/
def Memory.erase (m : Memory) (addr : Nat) : Memory :=
  m.filter fun cell => cell.1 != addr

/-- The list with an entry put before the first entry at a higher address. -/
def Memory.insert : Memory → Nat → Byte → Memory
  | [], addr, v => [(addr, v)]
  | (k, w) :: rest, addr, v =>
    if addr < k then (addr, v) :: (k, w) :: rest else (k, w) :: Memory.insert rest addr v

/-- Memory with one byte written (R62 for plain memory). Writing what an unlisted address reads as unlists it. -/
def Memory.write (m : Memory) (addr : Nat) (v : Byte) : Memory :=
  if v = Memory.fill then m.erase addr else (m.erase addr).insert addr v

/-- The canonical form: addresses strictly rising and inside the 64K bytes (R60), no entry equal to what an unlisted
address reads as. -/
abbrev Memory.wf (m : Memory) : Prop :=
  m.Pairwise (fun c d => c.1 < d.1) ∧ ∀ c ∈ m, c.1 < 65536 ∧ c.2 ≠ Memory.fill

/-- What stands at an address: the first region that holds it, and RAM where none does (R62, R68, log 1). -/
def kindAt : List Region → Word → Kind
  | [], _ => .ram
  | r :: rest, addr => if r.first ≤ addr ∧ addr ≤ r.last then r.kind else kindAt rest addr

/-- Memory with one byte presented to the platform for storing: RAM takes it, ROM does not, and a device or an address
where nothing responds holds no byte of memory (R62, log 1). -/
def Memory.store (platform : List Region) (m : Memory) (addr : Word) (v : Byte) : Memory :=
  if kindAt platform addr = .ram then m.write addr.toNat v else m

/-- The byte of memory at an address (R62). -/
def State.read (s : State) (addr : Word) : Byte := Memory.read s.mem addr.toNat

/-- A byte presented to the platform for storing, by any bus master (R62). -/
def State.write (s : State) (addr : Word) (v : Byte) : State :=
  { s with mem := Memory.store s.platform s.mem addr v }

/-! The places of a step, in the order of its accesses (R70 (a)). An access has one of them whether or not the others
of the step take place; what another bus master writes within the step is ordered against them (R77, log 18). -/

/-- The fetches: this place and the two after it (R102). -/
def fetchPlace : Nat := 0
/-- The two reads of a pointer (R64). -/
def pointerPlace : Nat := 3
/-- The re-read when an index crosses a page (R74). -/
def crossingPlace : Nat := 5
/-- The datum; the first of three pushes or pulls, the others following (R25, R26, R140). -/
def dataPlace : Nat := 6
/-- The second read of a read-modify-write (R72). -/
def modifyPlace : Nat := 7
/-- The write of a read-modify-write (R72). -/
def writeBackPlace : Nat := 8
/-- The two reads of a vector (R305, R351). -/
def vectorPlace : Nat := 9
/-- After the last access. -/
def endPlace : Nat := 11

/-- The state when a place of the step is reached: what other bus masters write before it is written (R77). -/
def State.upTo (s : State) (place : Nat) : State :=
  { s with
    mem := (s.dma.takeWhile fun w => w.before.val ≤ place).foldl
      (fun m w => Memory.store s.platform m w.addr w.value) s.mem
    dma := s.dma.dropWhile fun w => w.before.val ≤ place }

/-- What the platform supplies for a read: the byte of memory there, or, where a device stands or nothing responds, a
free byte for each read of the step, told apart by a number (R62, D21, log 1). -/
def State.supplied (s : State) (number : Nat) (addr : Word) : Byte :=
  match kindAt s.platform addr with
  | .ram => s.read addr
  | .rom => s.read addr
  | .device => Config.platformByte s.draws number addr
  | .nothing => Config.platformByte s.draws number addr

/-- `MemRead(addr, 1)` at a place of the step (R8, R62). -/
def State.readAt (s : State) (place : Nat) (addr : Word) : Byte := (s.upTo place).supplied place addr

/-- `MemWrite(addr, 1, v)` at a place of the step: presented to the platform, and recorded with its label ML (R8, R61,
R62, R73). -/
def State.writeAt (s : State) (place : Nat) (ml : Bool) (addr : Word) (v : Byte) : State :=
  { s with
    mem := Memory.store s.platform (s.upTo place).mem addr v
    dma := (s.upTo place).dma
    bus := s.bus ++ [{ place := place, addr := addr, value := v, write := true, sync := false, ml := ml }] }

/-- The read of the datum at an effective address (R140 (b)). -/
def State.datum (s : State) (ea : Word) : Byte := s.readAt dataPlace ea

/-- The write of a read-modify-write instruction, two accesses after the read of its datum, with ML as the instruction
has it (R72, R73). -/
def State.writeBack (s : State) (ml : Bool) (ea : Word) (v : Byte) : State :=
  s.writeAt writeBackPlace ml ea v

/-- `Read16(a)` at two places of the step: low byte first, the increment carries into the high byte (R8, R64). -/
def State.readWord (s : State) (place : Nat) (addr : Word) : Word :=
  wordOf (s.readAt place addr) (s.readAt (place + 1) (addr + 1))

/-- An 8-bit address in page zero (R108). -/
def zeroPage (z : Byte) : Word := z.setWidth 16

/-- `Read16ZP(z)`: both reads in page zero (R8, R64). -/
def State.readWordZP (s : State) (z : Byte) : Word :=
  wordOf (s.readAt pointerPlace (zeroPage z)) (s.readAt (pointerPlace + 1) (zeroPage (z + 1)))

/-- The byte the stack pointer addresses, in page one (R24). -/
def stackAddr (sp : Byte) : Word := wordOf sp 0x01

/-- `Push8(v)` at a place of the step: write, then decrement (R25). -/
def State.push (s : State) (place : Nat) (v : Byte) : State :=
  { s.writeAt place false (stackAddr s.sp) v with sp := s.sp - 1 }

/-- `Push8(w[15:8]); Push8(w[7:0])`, the first two accesses of the data (R233, R305). -/
def State.pushWord (s : State) (w : Word) : State :=
  (s.push dataPlace (highByte w)).push (dataPlace + 1) (lowByte w)

/-- The byte `Pull8()` returns at a place of the step: the pointer is incremented before the read (R26). -/
def State.pulled (s : State) (place : Nat) : Byte := s.readAt place (stackAddr (s.sp + 1))

/-- The state after `Pull8()` (R26). -/
def State.pull (s : State) : State := { s with sp := s.sp + 1 }

/-- The word that `lo <- Pull8(); hi <- Pull8()` gives (R234, R269). -/
def State.pulledWord (s : State) (place : Nat) : Word := wordOf (s.pulled place) (s.pull.pulled (place + 1))

/-- The state after two pulls. -/
def State.pullWord (s : State) : State := s.pull.pull

/-- `pc <- (pc + len) mod 0x10000` (R28, R140 (c)). -/
def State.advance (s : State) (len : Nat) : State :=
  { s with pc := s.pc + BitVec.ofNat 16 len }

/-- The NMI vector (R306). -/
def nmiVector : Word := 0xFFFA
/-- The restart vector (R306, R351). -/
def resetVector : Word := 0xFFFC
/-- The vector IRQ and BRK share (R306). -/
def irqVector : Word := 0xFFFE

/-- `Interrupt(vector, b)` with the return address `ret`: the one entry sequence of IRQ, NMI and BRK (R305). The
pushed image holds the flags as they were; then I is set, D is cleared and `pc` is loaded from the vector. -/
def State.enterInterrupt (s : State) (vector : Word) (b : Bool) (ret : Word) : State :=
  let t := (s.pushWord ret).push (dataPlace + 2) (s.p.image b)
  { t with p := { t.p with i := true, d := false }, pc := t.readWord vectorPlace vector }

/-- The return from an interrupt or BRK: `P`, then `pc` low and high, nothing added (R269). -/
def State.returnFromInterrupt (s : State) : State :=
  let t := s.pull
  { t.pullWord with p := Flags.ofByte (s.pulled dataPlace), pc := t.pulledWord (dataPlace + 1) }

/-- A read on the bus (R61). -/
def State.readAccess (s : State) (place : Nat) (addr : Word) : BusAccess :=
  { place := place, addr := addr, value := s.readAt place addr, write := false, sync := false, ml := false }

/-- The two reads of a 16-bit pointer or vector, low byte first (R64). -/
def State.readWordAccesses (s : State) (place : Nat) (addr : Word) : List BusAccess :=
  [s.readAccess place addr, s.readAccess (place + 1) (addr + 1)]

/-- The state within the step once a list of accesses has been made: their writes are presented to the platform, and what
other bus masters write before each of those is written (R62, R77). -/
def State.replay (s : State) : List BusAccess → State
  | [] => s
  | access :: rest =>
    (if access.write then (s.upTo access.place).write access.addr access.value else s).replay rest

/-- A discarded read whose address the source does not give (R61, R76), the `k`-th of the step, made at a moment of the
step after the accesses `before`. Its address is free, but for `avoid`, the effective address of a store: DESIGN CHOICE
(log 19), as R76 leaves the address open and R144 to R147 say that a store does not read there. It returns what the
platform supplies then (R62). -/
def State.discardedAccess (s : State) (avoid : Option Word) (k moment : Nat) (before : List BusAccess) : BusAccess :=
  let free := (Config.discardedRead s.draws k).addr
  let addr := if avoid = some free then free + 1 else free
  { place := moment / 2, addr := addr
    value := ((s.replay before).upTo (moment / 2)).supplied (endPlace + 1 + k) addr
    write := false, sync := false, ml := false }

/-- A list of accesses in the order of their places, with `n` of the reads of R76 among them, each at a free moment from
`first` to `last`. A place is two moments, its access between them (log 19). -/
def State.interleave (s : State) (avoid : Option Word) (first last : Nat) : Nat → List BusAccess → List BusAccess
  | 0, accesses => accesses
  | n + 1, accesses =>
    let l := s.interleave avoid first last n accesses
    let moment := first + (Config.discardedRead s.draws n).moment % (last + 1 - first)
    let before := l.takeWhile fun access => 2 * access.place < moment
    before ++ s.discardedAccess avoid n moment before :: l.dropWhile fun access => 2 * access.place < moment

/-- The accesses of a sequence of `cycles` machine cycles that `s` begins. Every cycle makes an access (R61): where the
rules list fewer, the others are the reads of R76, recorded if `DummyReads` is on (R6). -/
def State.fillCycles (s : State) (dummyReads : Bool) (avoid : Option Word) (first last cycles : Nat)
    (listed : List BusAccess) : List BusAccess :=
  if decide (listed.length < cycles) && dummyReads then
    s.interleave avoid first last (cycles - listed.length) listed
  else listed

/-- The reset sequence (R351, R352): I set, D cleared, no NMI pending, `pc` from the restart vector, memory unchanged.
The other registers and flags are free values (D2, log 3), and so is the instruction register (log 24). Six cycles, whose
reads the source does not describe, and the two vector reads. -/
def State.resetSequence (s : State) : State :=
  { s with
    a := Config.resetA s.draws, x := Config.resetX s.draws, y := Config.resetY s.draws, sp := Config.resetS s.draws
    p := { n := Config.resetN s.draws, v := Config.resetV s.draws, d := false, i := true
           z := Config.resetZ s.draws, c := Config.resetC s.draws }
    pc := s.readWord vectorPlace resetVector
    nmiPending := false, resPending := false, resHeld := false, irqShadow := false, stateLost := false
    ir := Config.resetIr s.draws, tcu := 8, cycles := s.cycles + 8
    bus := s.bus ++ s.fillCycles Config.dummyReads none 0 (2 * vectorPlace) 8 (s.readWordAccesses vectorPlace resetVector) }

end Sys2Proof.Machine
end

