-- ==== Sys2Proof/Machine/Operands.lean ====
section
/-! DEFINITION. The operand forms: the effective address or the target each computes (R104 to R119). The ABS form's
effective address is the operand itself (R107), the IMM form's operand is the byte itself (R106), Implied and Accum have
none (R104, R105). -/

namespace Sys2Proof.Machine

/-- ZP (R108). -/
def eaZp (zp : Byte) : Word := zeroPage zp

/-- "ZP, X": wraps in page zero (R109). -/
def eaZpX (zp : Byte) (s : State) : Word := zeroPage (zp + s.x)

/-- "ZP, Y": wraps in page zero (R110). -/
def eaZpY (zp : Byte) (s : State) : Word := zeroPage (zp + s.y)

/-- "ABS, X" (R111), and the pointer of "(ABS, X)" (R113). -/
def eaAbsX (addr : Word) (s : State) : Word := addr + s.x.setWidth 16

/-- "ABS, Y" (R112). -/
def eaAbsY (addr : Word) (s : State) : Word := addr + s.y.setWidth 16

/-- "(IND, X)" (R116). -/
def eaIndX (zp : Byte) (s : State) : Word := s.readWordZP (zp + s.x)

/-- "(IND), Y" (R117). -/
def eaIndY (zp : Byte) (s : State) : Word := s.readWordZP zp + s.y.setWidth 16

/-- "(IND)" (R119). -/
def eaInd (zp : Byte) (s : State) : Word := s.readWordZP zp

/-- "(ABS)" (R118). -/
def targetAbsInd (addr : Word) (s : State) : Word := s.readWord pointerPlace addr

/-- "(ABS, X)" (R113). -/
def targetAbsIndX (addr : Word) (s : State) : Word := s.readWord pointerPlace (eaAbsX addr s)

/-- The target of Relative (R114, with `len` 2) and ZP REL (R115, with `len` 3): a full 16-bit addition of the
sign-extended offset to the address of the next instruction. -/
def relTarget (len : Nat) (rel : Byte) (s : State) : Word :=
  s.pc + BitVec.ofNat 16 len + rel.signExtend 16

end Sys2Proof.Machine
end

