-- ==== Sys2Proof/Machine/LoadStore.lean ====
section
/-! DEFINITION. Loads, stores and register transfers (40_load_store_transfer.md, R140 to R153). -/

namespace Sys2Proof.Machine

/-- `A <- m; SetNZ(m); pc <- pc + len`: LDA (R141), and every instruction that writes `A` and sets N and Z from it. -/
def lda (m : Byte) (len : Nat) (s : State) : Out :=
  .next { s.advance len with a := m, p := s.p.setNZ m }

/-- `X <- m; SetNZ(m); pc <- pc + len`: LDX (R142), and every instruction that writes `X` and sets N and Z from it. -/
def ldx (m : Byte) (len : Nat) (s : State) : Out :=
  .next { s.advance len with x := m, p := s.p.setNZ m }

/-- `Y <- m; SetNZ(m); pc <- pc + len`: LDY (R143), and every instruction that writes `Y` and sets N and Z from it. -/
def ldy (m : Byte) (len : Nat) (s : State) : Out :=
  .next { s.advance len with y := m, p := s.p.setNZ m }

/-- `MemWrite(ea, 1, v); pc <- pc + len`: the stores, which write no flag (R144 to R147). -/
def store (v : Byte) (ea : Word) (len : Nat) (s : State) : Out :=
  .next ((s.writeAt dataPlace false ea v).advance len)

/-- `S <- v; pc <- pc + 1`, no flag: TXS (R152). -/
def txs (v : Byte) (s : State) : Out :=
  .next { s.advance 1 with sp := v }

/-- 0xA1 LDA, (IND, X) (R141, R116). -/
def execLdaIndX (zp : Byte) (s : State) : Out :=
  lda (s.datum (eaIndX zp s)) 2 s

/-- 0xA5 LDA, ZP (R141, R108). -/
def execLdaZp (zp : Byte) (s : State) : Out :=
  lda (s.datum (eaZp zp)) 2 s

/-- 0xA9 LDA, IMM (R141, R106). -/
def execLdaImm (imm : Byte) (s : State) : Out :=
  lda imm 2 s

/-- 0xAD LDA, ABS (R141, R107). -/
def execLdaAbs (addr : Word) (s : State) : Out :=
  lda (s.datum addr) 3 s

/-- 0xB1 LDA, (IND), Y (R141, R117). -/
def execLdaIndY (zp : Byte) (s : State) : Out :=
  lda (s.datum (eaIndY zp s)) 2 s

/-- 0xB2 LDA, (IND) (R141, R119). -/
def execLdaInd (zp : Byte) (s : State) : Out :=
  lda (s.datum (eaInd zp s)) 2 s

/-- 0xB5 LDA, ZP, X (R141, R109). -/
def execLdaZpX (zp : Byte) (s : State) : Out :=
  lda (s.datum (eaZpX zp s)) 2 s

/-- 0xB9 LDA, ABS, Y (R141, R112). -/
def execLdaAbsY (addr : Word) (s : State) : Out :=
  lda (s.datum (eaAbsY addr s)) 3 s

/-- 0xBD LDA, ABS, X (R141, R111). -/
def execLdaAbsX (addr : Word) (s : State) : Out :=
  lda (s.datum (eaAbsX addr s)) 3 s

/-- 0xA2 LDX, IMM (R142, R106). -/
def execLdxImm (imm : Byte) (s : State) : Out :=
  ldx imm 2 s

/-- 0xA6 LDX, ZP (R142, R108). -/
def execLdxZp (zp : Byte) (s : State) : Out :=
  ldx (s.datum (eaZp zp)) 2 s

/-- 0xAE LDX, ABS (R142, R107). -/
def execLdxAbs (addr : Word) (s : State) : Out :=
  ldx (s.datum addr) 3 s

/-- 0xB6 LDX, ZP, Y (R142, R110). -/
def execLdxZpY (zp : Byte) (s : State) : Out :=
  ldx (s.datum (eaZpY zp s)) 2 s

/-- 0xBE LDX, ABS, Y (R142, R112). -/
def execLdxAbsY (addr : Word) (s : State) : Out :=
  ldx (s.datum (eaAbsY addr s)) 3 s

/-- 0xA0 LDY, IMM (R143, R106). -/
def execLdyImm (imm : Byte) (s : State) : Out :=
  ldy imm 2 s

/-- 0xA4 LDY, ZP (R143, R108). -/
def execLdyZp (zp : Byte) (s : State) : Out :=
  ldy (s.datum (eaZp zp)) 2 s

/-- 0xAC LDY, ABS (R143, R107). -/
def execLdyAbs (addr : Word) (s : State) : Out :=
  ldy (s.datum addr) 3 s

/-- 0xB4 LDY, ZP, X (R143, R109). -/
def execLdyZpX (zp : Byte) (s : State) : Out :=
  ldy (s.datum (eaZpX zp s)) 2 s

/-- 0xBC LDY, ABS, X (R143, R111). -/
def execLdyAbsX (addr : Word) (s : State) : Out :=
  ldy (s.datum (eaAbsX addr s)) 3 s

/-- 0x81 STA, (IND, X) (R144, R116). -/
def execStaIndX (zp : Byte) (s : State) : Out :=
  store s.a (eaIndX zp s) 2 s

/-- 0x85 STA, ZP (R144, R108). -/
def execStaZp (zp : Byte) (s : State) : Out :=
  store s.a (eaZp zp) 2 s

/-- 0x8D STA, ABS (R144, R107). -/
def execStaAbs (addr : Word) (s : State) : Out :=
  store s.a addr 3 s

/-- 0x91 STA, (IND), Y (R144, R117). -/
def execStaIndY (zp : Byte) (s : State) : Out :=
  store s.a (eaIndY zp s) 2 s

/-- 0x92 STA, (IND) (R144, R119). -/
def execStaInd (zp : Byte) (s : State) : Out :=
  store s.a (eaInd zp s) 2 s

/-- 0x95 STA, ZP, X (R144, R109). -/
def execStaZpX (zp : Byte) (s : State) : Out :=
  store s.a (eaZpX zp s) 2 s

/-- 0x99 STA, ABS, Y (R144, R112). -/
def execStaAbsY (addr : Word) (s : State) : Out :=
  store s.a (eaAbsY addr s) 3 s

/-- 0x9D STA, ABS, X (R144, R111). -/
def execStaAbsX (addr : Word) (s : State) : Out :=
  store s.a (eaAbsX addr s) 3 s

/-- 0x86 STX, ZP (R145, R108). -/
def execStxZp (zp : Byte) (s : State) : Out :=
  store s.x (eaZp zp) 2 s

/-- 0x8E STX, ABS (R145, R107). -/
def execStxAbs (addr : Word) (s : State) : Out :=
  store s.x addr 3 s

/-- 0x96 STX, ZP, Y (R145, R110). -/
def execStxZpY (zp : Byte) (s : State) : Out :=
  store s.x (eaZpY zp s) 2 s

/-- 0x84 STY, ZP (R146, R108). -/
def execStyZp (zp : Byte) (s : State) : Out :=
  store s.y (eaZp zp) 2 s

/-- 0x8C STY, ABS (R146, R107). -/
def execStyAbs (addr : Word) (s : State) : Out :=
  store s.y addr 3 s

/-- 0x94 STY, ZP, X (R146, R109). -/
def execStyZpX (zp : Byte) (s : State) : Out :=
  store s.y (eaZpX zp s) 2 s

/-- 0x64 STZ, ZP (R147, R108). -/
def execStzZp (zp : Byte) (s : State) : Out :=
  store 0x00 (eaZp zp) 2 s

/-- 0x74 STZ, ZP, X (R147, R109). -/
def execStzZpX (zp : Byte) (s : State) : Out :=
  store 0x00 (eaZpX zp s) 2 s

/-- 0x9C STZ, ABS (R147, R107). -/
def execStzAbs (addr : Word) (s : State) : Out :=
  store 0x00 addr 3 s

/-- 0x9E STZ, ABS, X (R147, R111). -/
def execStzAbsX (addr : Word) (s : State) : Out :=
  store 0x00 (eaAbsX addr s) 3 s

/-- 0xAA TAX, Implied (R148). -/
def execTax (s : State) : Out :=
  ldx s.a 1 s

/-- 0xA8 TAY, Implied (R149). -/
def execTay (s : State) : Out :=
  ldy s.a 1 s

/-- 0xBA TSX, Implied (R150). -/
def execTsx (s : State) : Out :=
  ldx s.sp 1 s

/-- 0x8A TXA, Implied (R151). -/
def execTxa (s : State) : Out :=
  lda s.x 1 s

/-- 0x9A TXS, Implied (R152). -/
def execTxs (s : State) : Out :=
  txs s.x s

/-- 0x98 TYA, Implied (R153). -/
def execTya (s : State) : Out :=
  lda s.y 1 s

end Sys2Proof.Machine
end

