-- ==== Sys2Proof/Machine/Arithmetic.lean ====
section
/-! DEFINITION. Addition, subtraction, comparison, increment and decrement (41_arithmetic.md, R160 to R176). -/

namespace Sys2Proof.Machine

/-- ADC: the binary sum when `P.D` is 0, the decimal sum when it is 1 (R165). -/
def adc (m : Byte) (len : Nat) (s : State) : Out :=
  if s.p.d then
    let r := addDec s.a m s.p.c
    .next { s.advance len with a := r.result, p := s.p.ofDec r }
  else
    let r := addBin s.a m s.p.c
    .next { s.advance len with a := r.result, p := s.p.ofBin r }

/-- SBC: the binary difference when `P.D` is 0, the decimal difference when it is 1 (R166). -/
def sbc (m : Byte) (len : Nat) (s : State) : Out :=
  if s.p.d then
    let r := subDec s.a m s.p.c
    .next { s.advance len with a := r.result, p := s.p.ofDec r }
  else
    let r := subBin s.a m s.p.c
    .next { s.advance len with a := r.result, p := s.p.ofBin r }

/-- `Compare(r, m); pc <- pc + len`: CMP, CPX, CPY (R167 to R169). -/
def compare (r m : Byte) (len : Nat) (s : State) : Out :=
  .next { s.advance len with p := s.p.compare r m }

/-- The increment of INC, INX, INY: wraps (R173, R176). -/
def increment (v : Byte) : Byte := v + 1

/-- The decrement of DEC, DEX, DEY: wraps (R170, R176). -/
def decrement (v : Byte) : Byte := v - 1

/-- The memory forms of DEC and INC: the value of the first read, changed and written back, N and Z set from it
(R170, R173, R72). -/
def countMem (f : Byte → Byte) (ea : Word) (len : Nat) (s : State) : Out :=
  let r := f (s.datum ea)
  .next { (s.writeBack true ea r).advance len with p := s.p.setNZ r }

/-- 0x61 ADC, (IND, X) (R165, R116). -/
def execAdcIndX (zp : Byte) (s : State) : Out :=
  adc (s.datum (eaIndX zp s)) 2 s

/-- 0x65 ADC, ZP (R165, R108). -/
def execAdcZp (zp : Byte) (s : State) : Out :=
  adc (s.datum (eaZp zp)) 2 s

/-- 0x69 ADC, IMM (R165, R106). -/
def execAdcImm (imm : Byte) (s : State) : Out :=
  adc imm 2 s

/-- 0x6D ADC, ABS (R165, R107). -/
def execAdcAbs (addr : Word) (s : State) : Out :=
  adc (s.datum addr) 3 s

/-- 0x71 ADC, (IND), Y (R165, R117). -/
def execAdcIndY (zp : Byte) (s : State) : Out :=
  adc (s.datum (eaIndY zp s)) 2 s

/-- 0x72 ADC, (IND) (R165, R119). -/
def execAdcInd (zp : Byte) (s : State) : Out :=
  adc (s.datum (eaInd zp s)) 2 s

/-- 0x75 ADC, ZP, X (R165, R109). -/
def execAdcZpX (zp : Byte) (s : State) : Out :=
  adc (s.datum (eaZpX zp s)) 2 s

/-- 0x79 ADC, ABS, Y (R165, R112). -/
def execAdcAbsY (addr : Word) (s : State) : Out :=
  adc (s.datum (eaAbsY addr s)) 3 s

/-- 0x7D ADC, ABS, X (R165, R111). -/
def execAdcAbsX (addr : Word) (s : State) : Out :=
  adc (s.datum (eaAbsX addr s)) 3 s

/-- 0xE1 SBC, (IND, X) (R166, R116). -/
def execSbcIndX (zp : Byte) (s : State) : Out :=
  sbc (s.datum (eaIndX zp s)) 2 s

/-- 0xE5 SBC, ZP (R166, R108). -/
def execSbcZp (zp : Byte) (s : State) : Out :=
  sbc (s.datum (eaZp zp)) 2 s

/-- 0xE9 SBC, IMM (R166, R106). -/
def execSbcImm (imm : Byte) (s : State) : Out :=
  sbc imm 2 s

/-- 0xED SBC, ABS (R166, R107). -/
def execSbcAbs (addr : Word) (s : State) : Out :=
  sbc (s.datum addr) 3 s

/-- 0xF1 SBC, (IND), Y (R166, R117). -/
def execSbcIndY (zp : Byte) (s : State) : Out :=
  sbc (s.datum (eaIndY zp s)) 2 s

/-- 0xF2 SBC, (IND) (R166, R119). -/
def execSbcInd (zp : Byte) (s : State) : Out :=
  sbc (s.datum (eaInd zp s)) 2 s

/-- 0xF5 SBC, ZP, X (R166, R109). -/
def execSbcZpX (zp : Byte) (s : State) : Out :=
  sbc (s.datum (eaZpX zp s)) 2 s

/-- 0xF9 SBC, ABS, Y (R166, R112). -/
def execSbcAbsY (addr : Word) (s : State) : Out :=
  sbc (s.datum (eaAbsY addr s)) 3 s

/-- 0xFD SBC, ABS, X (R166, R111). -/
def execSbcAbsX (addr : Word) (s : State) : Out :=
  sbc (s.datum (eaAbsX addr s)) 3 s

/-- 0xC1 CMP, (IND, X) (R167, R116). -/
def execCmpIndX (zp : Byte) (s : State) : Out :=
  compare s.a (s.datum (eaIndX zp s)) 2 s

/-- 0xC5 CMP, ZP (R167, R108). -/
def execCmpZp (zp : Byte) (s : State) : Out :=
  compare s.a (s.datum (eaZp zp)) 2 s

/-- 0xC9 CMP, IMM (R167, R106). -/
def execCmpImm (imm : Byte) (s : State) : Out :=
  compare s.a imm 2 s

/-- 0xCD CMP, ABS (R167, R107). -/
def execCmpAbs (addr : Word) (s : State) : Out :=
  compare s.a (s.datum addr) 3 s

/-- 0xD1 CMP, (IND), Y (R167, R117). -/
def execCmpIndY (zp : Byte) (s : State) : Out :=
  compare s.a (s.datum (eaIndY zp s)) 2 s

/-- 0xD2 CMP, (IND) (R167, R119). -/
def execCmpInd (zp : Byte) (s : State) : Out :=
  compare s.a (s.datum (eaInd zp s)) 2 s

/-- 0xD5 CMP, ZP, X (R167, R109). -/
def execCmpZpX (zp : Byte) (s : State) : Out :=
  compare s.a (s.datum (eaZpX zp s)) 2 s

/-- 0xD9 CMP, ABS, Y (R167, R112). -/
def execCmpAbsY (addr : Word) (s : State) : Out :=
  compare s.a (s.datum (eaAbsY addr s)) 3 s

/-- 0xDD CMP, ABS, X (R167, R111). -/
def execCmpAbsX (addr : Word) (s : State) : Out :=
  compare s.a (s.datum (eaAbsX addr s)) 3 s

/-- 0xE0 CPX, IMM (R168, R106). -/
def execCpxImm (imm : Byte) (s : State) : Out :=
  compare s.x imm 2 s

/-- 0xE4 CPX, ZP (R168, R108). -/
def execCpxZp (zp : Byte) (s : State) : Out :=
  compare s.x (s.datum (eaZp zp)) 2 s

/-- 0xEC CPX, ABS (R168, R107). -/
def execCpxAbs (addr : Word) (s : State) : Out :=
  compare s.x (s.datum addr) 3 s

/-- 0xC0 CPY, IMM (R169, R106). -/
def execCpyImm (imm : Byte) (s : State) : Out :=
  compare s.y imm 2 s

/-- 0xC4 CPY, ZP (R169, R108). -/
def execCpyZp (zp : Byte) (s : State) : Out :=
  compare s.y (s.datum (eaZp zp)) 2 s

/-- 0xCC CPY, ABS (R169, R107). -/
def execCpyAbs (addr : Word) (s : State) : Out :=
  compare s.y (s.datum addr) 3 s

/-- 0x3A DEC, Accum (R170, R105). -/
def execDecAcc (s : State) : Out :=
  lda (decrement s.a) 1 s

/-- 0xC6 DEC, ZP (R170, R108). -/
def execDecZp (zp : Byte) (s : State) : Out :=
  countMem decrement (eaZp zp) 2 s

/-- 0xCE DEC, ABS (R170, R107). -/
def execDecAbs (addr : Word) (s : State) : Out :=
  countMem decrement addr 3 s

/-- 0xD6 DEC, ZP, X (R170, R109). -/
def execDecZpX (zp : Byte) (s : State) : Out :=
  countMem decrement (eaZpX zp s) 2 s

/-- 0xDE DEC, ABS, X (R170, R111). -/
def execDecAbsX (addr : Word) (s : State) : Out :=
  countMem decrement (eaAbsX addr s) 3 s

/-- 0xCA DEX, Implied (R171). -/
def execDex (s : State) : Out :=
  ldx (decrement s.x) 1 s

/-- 0x88 DEY, Implied (R172). -/
def execDey (s : State) : Out :=
  ldy (decrement s.y) 1 s

/-- 0x1A INC, Accum (R173, R105). -/
def execIncAcc (s : State) : Out :=
  lda (increment s.a) 1 s

/-- 0xE6 INC, ZP (R173, R108). -/
def execIncZp (zp : Byte) (s : State) : Out :=
  countMem increment (eaZp zp) 2 s

/-- 0xEE INC, ABS (R173, R107). -/
def execIncAbs (addr : Word) (s : State) : Out :=
  countMem increment addr 3 s

/-- 0xF6 INC, ZP, X (R173, R109). -/
def execIncZpX (zp : Byte) (s : State) : Out :=
  countMem increment (eaZpX zp s) 2 s

/-- 0xFE INC, ABS, X (R173, R111). -/
def execIncAbsX (addr : Word) (s : State) : Out :=
  countMem increment (eaAbsX addr s) 3 s

/-- 0xE8 INX, Implied (R174). -/
def execInx (s : State) : Out :=
  ldx (increment s.x) 1 s

/-- 0xC8 INY, Implied (R175). -/
def execIny (s : State) : Out :=
  ldy (increment s.y) 1 s

end Sys2Proof.Machine
end

