-- ==== Sys2Proof/Machine/Branch.lean ====
section
/-! DEFINITION. Branches, jumps and subroutines (43_branch_jump.md, R220 to R235). -/

namespace Sys2Proof.Machine

/-- "Carry Clear" (R221). -/
def carryClear (s : State) : Bool := !s.p.c

/-- "Carry Set" (R222). -/
def carrySet (s : State) : Bool := s.p.c

/-- "Result Zero" (R223). -/
def resultZero (s : State) : Bool := s.p.z

/-- "Result Minus" (R224). -/
def resultMinus (s : State) : Bool := s.p.n

/-- "Result not Zero" (R225). -/
def resultNotZero (s : State) : Bool := !s.p.z

/-- "Result Plus" (R226). -/
def resultPlus (s : State) : Bool := !s.p.n

/-- The condition of BRA (R227). -/
def always (_ : State) : Bool := true

/-- "Overflow Clear" (R228). -/
def overflowClear (s : State) : Bool := !s.p.v

/-- "Overflow Set" (R229). -/
def overflowSet (s : State) : Bool := s.p.v

/-- Bit `n` of a page-zero byte has a value: the condition of BBRn (false) and BBSn (true) (R230, R231, R120). -/
def bitIs (n : Nat) (value : Bool) (zp : Byte) (s : State) : Bool := (s.datum (eaZp zp)).getLsbD n == value

/-- The target if the condition holds, else the next instruction: the conditional branches and BRA (R220, `len` 2), BBR
and BBS (R230, R231, `len` 3). -/
def branch (cond : State → Bool) (len : Nat) (rel : Byte) (s : State) : Out :=
  .next (if cond s then { s with pc := relTarget len rel s } else s.advance len)

/-- JMP (R232). -/
def jump (target : Word) (s : State) : Out :=
  .next { s with pc := target }

/-- JSR: the address of its own third byte is pushed, high byte first (R233). -/
def callSubroutine (target : Word) (s : State) : Out :=
  .next { s.pushWord (s.pc + 2) with pc := target }

/-- RTS: the pulled word plus one (R234). -/
def returnFromSubroutine (s : State) : Out :=
  .next { s.pullWord with pc := s.pulledWord dataPlace + 1 }

/-- 0x90 BCC, Relative (R221, R114). -/
def execBcc (rel : Byte) (s : State) : Out :=
  branch carryClear 2 rel s

/-- 0xB0 BCS, Relative (R222, R114). -/
def execBcs (rel : Byte) (s : State) : Out :=
  branch carrySet 2 rel s

/-- 0xF0 BEQ, Relative (R223, R114). -/
def execBeq (rel : Byte) (s : State) : Out :=
  branch resultZero 2 rel s

/-- 0x30 BMI, Relative (R224, R114). -/
def execBmi (rel : Byte) (s : State) : Out :=
  branch resultMinus 2 rel s

/-- 0xD0 BNE, Relative (R225, R114). -/
def execBne (rel : Byte) (s : State) : Out :=
  branch resultNotZero 2 rel s

/-- 0x10 BPL, Relative (R226, R114). -/
def execBpl (rel : Byte) (s : State) : Out :=
  branch resultPlus 2 rel s

/-- 0x80 BRA, Relative (R227, R114). -/
def execBra (rel : Byte) (s : State) : Out :=
  branch always 2 rel s

/-- 0x50 BVC, Relative (R228, R114). -/
def execBvc (rel : Byte) (s : State) : Out :=
  branch overflowClear 2 rel s

/-- 0x70 BVS, Relative (R229, R114). -/
def execBvs (rel : Byte) (s : State) : Out :=
  branch overflowSet 2 rel s

/-- 0x0F BBR0, ZP REL (R230, R115). -/
def execBbr0 (zp : Byte) (rel : Byte) (s : State) : Out :=
  branch (bitIs 0 false zp) 3 rel s

/-- 0x1F BBR1, ZP REL (R230, R115). -/
def execBbr1 (zp : Byte) (rel : Byte) (s : State) : Out :=
  branch (bitIs 1 false zp) 3 rel s

/-- 0x2F BBR2, ZP REL (R230, R115). -/
def execBbr2 (zp : Byte) (rel : Byte) (s : State) : Out :=
  branch (bitIs 2 false zp) 3 rel s

/-- 0x3F BBR3, ZP REL (R230, R115). -/
def execBbr3 (zp : Byte) (rel : Byte) (s : State) : Out :=
  branch (bitIs 3 false zp) 3 rel s

/-- 0x4F BBR4, ZP REL (R230, R115). -/
def execBbr4 (zp : Byte) (rel : Byte) (s : State) : Out :=
  branch (bitIs 4 false zp) 3 rel s

/-- 0x5F BBR5, ZP REL (R230, R115). -/
def execBbr5 (zp : Byte) (rel : Byte) (s : State) : Out :=
  branch (bitIs 5 false zp) 3 rel s

/-- 0x6F BBR6, ZP REL (R230, R115). -/
def execBbr6 (zp : Byte) (rel : Byte) (s : State) : Out :=
  branch (bitIs 6 false zp) 3 rel s

/-- 0x7F BBR7, ZP REL (R230, R115). -/
def execBbr7 (zp : Byte) (rel : Byte) (s : State) : Out :=
  branch (bitIs 7 false zp) 3 rel s

/-- 0x8F BBS0, ZP REL (R231, R115). -/
def execBbs0 (zp : Byte) (rel : Byte) (s : State) : Out :=
  branch (bitIs 0 true zp) 3 rel s

/-- 0x9F BBS1, ZP REL (R231, R115). -/
def execBbs1 (zp : Byte) (rel : Byte) (s : State) : Out :=
  branch (bitIs 1 true zp) 3 rel s

/-- 0xAF BBS2, ZP REL (R231, R115). -/
def execBbs2 (zp : Byte) (rel : Byte) (s : State) : Out :=
  branch (bitIs 2 true zp) 3 rel s

/-- 0xBF BBS3, ZP REL (R231, R115). -/
def execBbs3 (zp : Byte) (rel : Byte) (s : State) : Out :=
  branch (bitIs 3 true zp) 3 rel s

/-- 0xCF BBS4, ZP REL (R231, R115). -/
def execBbs4 (zp : Byte) (rel : Byte) (s : State) : Out :=
  branch (bitIs 4 true zp) 3 rel s

/-- 0xDF BBS5, ZP REL (R231, R115). -/
def execBbs5 (zp : Byte) (rel : Byte) (s : State) : Out :=
  branch (bitIs 5 true zp) 3 rel s

/-- 0xEF BBS6, ZP REL (R231, R115). -/
def execBbs6 (zp : Byte) (rel : Byte) (s : State) : Out :=
  branch (bitIs 6 true zp) 3 rel s

/-- 0xFF BBS7, ZP REL (R231, R115). -/
def execBbs7 (zp : Byte) (rel : Byte) (s : State) : Out :=
  branch (bitIs 7 true zp) 3 rel s

/-- 0x4C JMP, ABS (R232, R107). -/
def execJmpAbs (addr : Word) (s : State) : Out :=
  jump addr s

/-- 0x6C JMP, (ABS) (R232, R118). -/
def execJmpInd (addr : Word) (s : State) : Out :=
  jump (targetAbsInd addr s) s

/-- 0x7C JMP, (ABS, X) (R232, R113). -/
def execJmpIndX (addr : Word) (s : State) : Out :=
  jump (targetAbsIndX addr s) s

/-- 0x20 JSR, ABS (R233, R107). -/
def execJsr (addr : Word) (s : State) : Out :=
  callSubroutine addr s

/-- 0x60 RTS, Implied (R234). -/
def execRts (s : State) : Out :=
  returnFromSubroutine s

end Sys2Proof.Machine
end

