-- ==== Sys2Proof/Machine/Logic.lean ====
section
/-! DEFINITION. Logic, bit tests, shifts, rotates and single-bit memory instructions (42_logic_shift_bit.md, R190 to
R202). -/

namespace Sys2Proof.Machine

/-- BIT in its memory forms: Z from the AND, N and V from bits 7 and 6 of the operand (R193). -/
def bitMem (m : Byte) (len : Nat) (s : State) : Out :=
  .next { s.advance len with p := { s.p.testZ s.a m with n := m.getLsbD 7, v := m.getLsbD 6 } }

/-- BIT in its IMM form: Z only (R193). -/
def bitImm (m : Byte) (len : Nat) (s : State) : Out :=
  .next { s.advance len with p := s.p.testZ s.a m }

/-- TRB and TSB: Z from the AND of `A` and the old memory value, then the changed value written back (R198, R199,
R72). -/
def testMem (f : Byte → Byte) (ea : Word) (len : Nat) (s : State) : Out :=
  let m := s.datum ea
  .next { (s.writeBack true ea (f m)).advance len with p := s.p.testZ s.a m }

/-- A shift or rotate of `A` (R194 to R197). -/
def shiftAcc (f : Byte → Shifted) (s : State) : Out :=
  let r := f s.a
  .next { s.advance 1 with a := r.result, p := s.p.ofShift r }

/-- A shift or rotate of a byte of memory (R194 to R197, R72). -/
def shiftMem (f : Byte → Shifted) (ea : Word) (len : Nat) (s : State) : Out :=
  let r := f (s.datum ea)
  .next { (s.writeBack true ea r.result).advance len with p := s.p.ofShift r }

/-- A page-zero byte changed and written back, no flag; whether ML is asserted is free (R72, R73, D23, log 19). -/
def changeBits (f : Byte → Byte) (zp : Byte) (s : State) : Out :=
  .next ((s.writeBack Config.mlDuringBitOps (eaZp zp) (f (s.datum (eaZp zp)))).advance 2)

/-- RMBn: bit `n` of a page-zero byte cleared, no flag (R200, R120). -/
def resetBit (n : Nat) (zp : Byte) (s : State) : Out :=
  changeBits (fun m => m &&& ~~~((1 : Byte) <<< n)) zp s

/-- SMBn: bit `n` of a page-zero byte set, no flag (R201, R120). -/
def setBit (n : Nat) (zp : Byte) (s : State) : Out :=
  changeBits (fun m => m ||| (1 : Byte) <<< n) zp s

/-- 0x21 AND, (IND, X) (R190, R116). -/
def execAndIndX (zp : Byte) (s : State) : Out :=
  lda (s.a &&& s.datum (eaIndX zp s)) 2 s

/-- 0x25 AND, ZP (R190, R108). -/
def execAndZp (zp : Byte) (s : State) : Out :=
  lda (s.a &&& s.datum (eaZp zp)) 2 s

/-- 0x29 AND, IMM (R190, R106). -/
def execAndImm (imm : Byte) (s : State) : Out :=
  lda (s.a &&& imm) 2 s

/-- 0x2D AND, ABS (R190, R107). -/
def execAndAbs (addr : Word) (s : State) : Out :=
  lda (s.a &&& s.datum addr) 3 s

/-- 0x31 AND, (IND), Y (R190, R117). -/
def execAndIndY (zp : Byte) (s : State) : Out :=
  lda (s.a &&& s.datum (eaIndY zp s)) 2 s

/-- 0x32 AND, (IND) (R190, R119). -/
def execAndInd (zp : Byte) (s : State) : Out :=
  lda (s.a &&& s.datum (eaInd zp s)) 2 s

/-- 0x35 AND, ZP, X (R190, R109). -/
def execAndZpX (zp : Byte) (s : State) : Out :=
  lda (s.a &&& s.datum (eaZpX zp s)) 2 s

/-- 0x39 AND, ABS, Y (R190, R112). -/
def execAndAbsY (addr : Word) (s : State) : Out :=
  lda (s.a &&& s.datum (eaAbsY addr s)) 3 s

/-- 0x3D AND, ABS, X (R190, R111). -/
def execAndAbsX (addr : Word) (s : State) : Out :=
  lda (s.a &&& s.datum (eaAbsX addr s)) 3 s

/-- 0x41 EOR, (IND, X) (R191, R116). -/
def execEorIndX (zp : Byte) (s : State) : Out :=
  lda (s.a ^^^ s.datum (eaIndX zp s)) 2 s

/-- 0x45 EOR, ZP (R191, R108). -/
def execEorZp (zp : Byte) (s : State) : Out :=
  lda (s.a ^^^ s.datum (eaZp zp)) 2 s

/-- 0x49 EOR, IMM (R191, R106). -/
def execEorImm (imm : Byte) (s : State) : Out :=
  lda (s.a ^^^ imm) 2 s

/-- 0x4D EOR, ABS (R191, R107). -/
def execEorAbs (addr : Word) (s : State) : Out :=
  lda (s.a ^^^ s.datum addr) 3 s

/-- 0x51 EOR, (IND), Y (R191, R117). -/
def execEorIndY (zp : Byte) (s : State) : Out :=
  lda (s.a ^^^ s.datum (eaIndY zp s)) 2 s

/-- 0x52 EOR, (IND) (R191, R119). -/
def execEorInd (zp : Byte) (s : State) : Out :=
  lda (s.a ^^^ s.datum (eaInd zp s)) 2 s

/-- 0x55 EOR, ZP, X (R191, R109). -/
def execEorZpX (zp : Byte) (s : State) : Out :=
  lda (s.a ^^^ s.datum (eaZpX zp s)) 2 s

/-- 0x59 EOR, ABS, Y (R191, R112). -/
def execEorAbsY (addr : Word) (s : State) : Out :=
  lda (s.a ^^^ s.datum (eaAbsY addr s)) 3 s

/-- 0x5D EOR, ABS, X (R191, R111). -/
def execEorAbsX (addr : Word) (s : State) : Out :=
  lda (s.a ^^^ s.datum (eaAbsX addr s)) 3 s

/-- 0x01 ORA, (IND, X) (R192, R116). -/
def execOraIndX (zp : Byte) (s : State) : Out :=
  lda (s.a ||| s.datum (eaIndX zp s)) 2 s

/-- 0x05 ORA, ZP (R192, R108). -/
def execOraZp (zp : Byte) (s : State) : Out :=
  lda (s.a ||| s.datum (eaZp zp)) 2 s

/-- 0x09 ORA, IMM (R192, R106). -/
def execOraImm (imm : Byte) (s : State) : Out :=
  lda (s.a ||| imm) 2 s

/-- 0x0D ORA, ABS (R192, R107). -/
def execOraAbs (addr : Word) (s : State) : Out :=
  lda (s.a ||| s.datum addr) 3 s

/-- 0x11 ORA, (IND), Y (R192, R117). -/
def execOraIndY (zp : Byte) (s : State) : Out :=
  lda (s.a ||| s.datum (eaIndY zp s)) 2 s

/-- 0x12 ORA, (IND) (R192, R119). -/
def execOraInd (zp : Byte) (s : State) : Out :=
  lda (s.a ||| s.datum (eaInd zp s)) 2 s

/-- 0x15 ORA, ZP, X (R192, R109). -/
def execOraZpX (zp : Byte) (s : State) : Out :=
  lda (s.a ||| s.datum (eaZpX zp s)) 2 s

/-- 0x19 ORA, ABS, Y (R192, R112). -/
def execOraAbsY (addr : Word) (s : State) : Out :=
  lda (s.a ||| s.datum (eaAbsY addr s)) 3 s

/-- 0x1D ORA, ABS, X (R192, R111). -/
def execOraAbsX (addr : Word) (s : State) : Out :=
  lda (s.a ||| s.datum (eaAbsX addr s)) 3 s

/-- 0x24 BIT, ZP (R193, R108). -/
def execBitZp (zp : Byte) (s : State) : Out :=
  bitMem (s.datum (eaZp zp)) 2 s

/-- 0x2C BIT, ABS (R193, R107). -/
def execBitAbs (addr : Word) (s : State) : Out :=
  bitMem (s.datum addr) 3 s

/-- 0x34 BIT, ZP, X (R193, R109). -/
def execBitZpX (zp : Byte) (s : State) : Out :=
  bitMem (s.datum (eaZpX zp s)) 2 s

/-- 0x3C BIT, ABS, X (R193, R111). -/
def execBitAbsX (addr : Word) (s : State) : Out :=
  bitMem (s.datum (eaAbsX addr s)) 3 s

/-- 0x89 BIT, IMM (R193, R106). -/
def execBitImm (imm : Byte) (s : State) : Out :=
  bitImm imm 2 s

/-- 0x14 TRB, ZP (R198, R108). -/
def execTrbZp (zp : Byte) (s : State) : Out :=
  testMem (fun m => m &&& ~~~s.a) (eaZp zp) 2 s

/-- 0x1C TRB, ABS (R198, R107). -/
def execTrbAbs (addr : Word) (s : State) : Out :=
  testMem (fun m => m &&& ~~~s.a) addr 3 s

/-- 0x04 TSB, ZP (R199, R108). -/
def execTsbZp (zp : Byte) (s : State) : Out :=
  testMem (fun m => m ||| s.a) (eaZp zp) 2 s

/-- 0x0C TSB, ABS (R199, R107). -/
def execTsbAbs (addr : Word) (s : State) : Out :=
  testMem (fun m => m ||| s.a) addr 3 s

/-- 0x06 ASL, ZP (R194, R108). -/
def execAslZp (zp : Byte) (s : State) : Out :=
  shiftMem shiftLeft (eaZp zp) 2 s

/-- 0x0A ASL, Accum (R194, R105). -/
def execAslAcc (s : State) : Out :=
  shiftAcc shiftLeft s

/-- 0x0E ASL, ABS (R194, R107). -/
def execAslAbs (addr : Word) (s : State) : Out :=
  shiftMem shiftLeft addr 3 s

/-- 0x16 ASL, ZP, X (R194, R109). -/
def execAslZpX (zp : Byte) (s : State) : Out :=
  shiftMem shiftLeft (eaZpX zp s) 2 s

/-- 0x1E ASL, ABS, X (R194, R111). -/
def execAslAbsX (addr : Word) (s : State) : Out :=
  shiftMem shiftLeft (eaAbsX addr s) 3 s

/-- 0x46 LSR, ZP (R195, R108). -/
def execLsrZp (zp : Byte) (s : State) : Out :=
  shiftMem shiftRight (eaZp zp) 2 s

/-- 0x4A LSR, Accum (R195, R105). -/
def execLsrAcc (s : State) : Out :=
  shiftAcc shiftRight s

/-- 0x4E LSR, ABS (R195, R107). -/
def execLsrAbs (addr : Word) (s : State) : Out :=
  shiftMem shiftRight addr 3 s

/-- 0x56 LSR, ZP, X (R195, R109). -/
def execLsrZpX (zp : Byte) (s : State) : Out :=
  shiftMem shiftRight (eaZpX zp s) 2 s

/-- 0x5E LSR, ABS, X (R195, R111). -/
def execLsrAbsX (addr : Word) (s : State) : Out :=
  shiftMem shiftRight (eaAbsX addr s) 3 s

/-- 0x26 ROL, ZP (R196, R108). -/
def execRolZp (zp : Byte) (s : State) : Out :=
  shiftMem (rotateLeft s.p.c) (eaZp zp) 2 s

/-- 0x2A ROL, Accum (R196, R105). -/
def execRolAcc (s : State) : Out :=
  shiftAcc (rotateLeft s.p.c) s

/-- 0x2E ROL, ABS (R196, R107). -/
def execRolAbs (addr : Word) (s : State) : Out :=
  shiftMem (rotateLeft s.p.c) addr 3 s

/-- 0x36 ROL, ZP, X (R196, R109). -/
def execRolZpX (zp : Byte) (s : State) : Out :=
  shiftMem (rotateLeft s.p.c) (eaZpX zp s) 2 s

/-- 0x3E ROL, ABS, X (R196, R111). -/
def execRolAbsX (addr : Word) (s : State) : Out :=
  shiftMem (rotateLeft s.p.c) (eaAbsX addr s) 3 s

/-- 0x66 ROR, ZP (R197, R108). -/
def execRorZp (zp : Byte) (s : State) : Out :=
  shiftMem (rotateRight s.p.c) (eaZp zp) 2 s

/-- 0x6A ROR, Accum (R197, R105). -/
def execRorAcc (s : State) : Out :=
  shiftAcc (rotateRight s.p.c) s

/-- 0x6E ROR, ABS (R197, R107). -/
def execRorAbs (addr : Word) (s : State) : Out :=
  shiftMem (rotateRight s.p.c) addr 3 s

/-- 0x76 ROR, ZP, X (R197, R109). -/
def execRorZpX (zp : Byte) (s : State) : Out :=
  shiftMem (rotateRight s.p.c) (eaZpX zp s) 2 s

/-- 0x7E ROR, ABS, X (R197, R111). -/
def execRorAbsX (addr : Word) (s : State) : Out :=
  shiftMem (rotateRight s.p.c) (eaAbsX addr s) 3 s

/-- 0x07 RMB0, ZP (R200, R108). -/
def execRmb0 (zp : Byte) (s : State) : Out :=
  resetBit 0 zp s

/-- 0x17 RMB1, ZP (R200, R108). -/
def execRmb1 (zp : Byte) (s : State) : Out :=
  resetBit 1 zp s

/-- 0x27 RMB2, ZP (R200, R108). -/
def execRmb2 (zp : Byte) (s : State) : Out :=
  resetBit 2 zp s

/-- 0x37 RMB3, ZP (R200, R108). -/
def execRmb3 (zp : Byte) (s : State) : Out :=
  resetBit 3 zp s

/-- 0x47 RMB4, ZP (R200, R108). -/
def execRmb4 (zp : Byte) (s : State) : Out :=
  resetBit 4 zp s

/-- 0x57 RMB5, ZP (R200, R108). -/
def execRmb5 (zp : Byte) (s : State) : Out :=
  resetBit 5 zp s

/-- 0x67 RMB6, ZP (R200, R108). -/
def execRmb6 (zp : Byte) (s : State) : Out :=
  resetBit 6 zp s

/-- 0x77 RMB7, ZP (R200, R108). -/
def execRmb7 (zp : Byte) (s : State) : Out :=
  resetBit 7 zp s

/-- 0x87 SMB0, ZP (R201, R108). -/
def execSmb0 (zp : Byte) (s : State) : Out :=
  setBit 0 zp s

/-- 0x97 SMB1, ZP (R201, R108). -/
def execSmb1 (zp : Byte) (s : State) : Out :=
  setBit 1 zp s

/-- 0xA7 SMB2, ZP (R201, R108). -/
def execSmb2 (zp : Byte) (s : State) : Out :=
  setBit 2 zp s

/-- 0xB7 SMB3, ZP (R201, R108). -/
def execSmb3 (zp : Byte) (s : State) : Out :=
  setBit 3 zp s

/-- 0xC7 SMB4, ZP (R201, R108). -/
def execSmb4 (zp : Byte) (s : State) : Out :=
  setBit 4 zp s

/-- 0xD7 SMB5, ZP (R201, R108). -/
def execSmb5 (zp : Byte) (s : State) : Out :=
  setBit 5 zp s

/-- 0xE7 SMB6, ZP (R201, R108). -/
def execSmb6 (zp : Byte) (s : State) : Out :=
  setBit 6 zp s

/-- 0xF7 SMB7, ZP (R201, R108). -/
def execSmb7 (zp : Byte) (s : State) : Out :=
  setBit 7 zp s

end Sys2Proof.Machine
end

