-- ==== Sys2Proof/Machine/Reserved.lean ====
section
/-! DEFINITION. The 46 unassigned op codes: no-operations whose length is a parameter (44_stack_flag_system.md, R270;
R124, R125, log 4). -/

namespace Sys2Proof.Machine

/-- `pc <- (pc + RsvLen(op)) mod 0x10000` and nothing else (R270). -/
def reserved (op : Byte) (s : State) : Out :=
  .next (s.advance (Config.rsvLen op))

/-- 0x02 RSV_02 (R270). -/
def execRsv02 (_b1 : Skipped) (s : State) : Out :=
  reserved 0x02 s

/-- 0x03 RSV_03 (R270). -/
def execRsv03 (s : State) : Out :=
  reserved 0x03 s

/-- 0x0B RSV_0B (R270). -/
def execRsv0B (s : State) : Out :=
  reserved 0x0B s

/-- 0x13 RSV_13 (R270). -/
def execRsv13 (s : State) : Out :=
  reserved 0x13 s

/-- 0x1B RSV_1B (R270). -/
def execRsv1B (s : State) : Out :=
  reserved 0x1B s

/-- 0x22 RSV_22 (R270). -/
def execRsv22 (_b1 : Skipped) (s : State) : Out :=
  reserved 0x22 s

/-- 0x23 RSV_23 (R270). -/
def execRsv23 (s : State) : Out :=
  reserved 0x23 s

/-- 0x2B RSV_2B (R270). -/
def execRsv2B (s : State) : Out :=
  reserved 0x2B s

/-- 0x33 RSV_33 (R270). -/
def execRsv33 (s : State) : Out :=
  reserved 0x33 s

/-- 0x3B RSV_3B (R270). -/
def execRsv3B (s : State) : Out :=
  reserved 0x3B s

/-- 0x42 RSV_42 (R270). -/
def execRsv42 (_b1 : Skipped) (s : State) : Out :=
  reserved 0x42 s

/-- 0x43 RSV_43 (R270). -/
def execRsv43 (s : State) : Out :=
  reserved 0x43 s

/-- 0x44 RSV_44 (R270). -/
def execRsv44 (_b1 : Skipped) (s : State) : Out :=
  reserved 0x44 s

/-- 0x4B RSV_4B (R270). -/
def execRsv4B (s : State) : Out :=
  reserved 0x4B s

/-- 0x53 RSV_53 (R270). -/
def execRsv53 (s : State) : Out :=
  reserved 0x53 s

/-- 0x54 RSV_54 (R270). -/
def execRsv54 (_b1 : Skipped) (s : State) : Out :=
  reserved 0x54 s

/-- 0x5B RSV_5B (R270). -/
def execRsv5B (s : State) : Out :=
  reserved 0x5B s

/-- 0x5C RSV_5C (R270). -/
def execRsv5C (_b1 _b2 : Skipped) (s : State) : Out :=
  reserved 0x5C s

/-- 0x62 RSV_62 (R270). -/
def execRsv62 (_b1 : Skipped) (s : State) : Out :=
  reserved 0x62 s

/-- 0x63 RSV_63 (R270). -/
def execRsv63 (s : State) : Out :=
  reserved 0x63 s

/-- 0x6B RSV_6B (R270). -/
def execRsv6B (s : State) : Out :=
  reserved 0x6B s

/-- 0x73 RSV_73 (R270). -/
def execRsv73 (s : State) : Out :=
  reserved 0x73 s

/-- 0x7B RSV_7B (R270). -/
def execRsv7B (s : State) : Out :=
  reserved 0x7B s

/-- 0x82 RSV_82 (R270). -/
def execRsv82 (_b1 : Skipped) (s : State) : Out :=
  reserved 0x82 s

/-- 0x83 RSV_83 (R270). -/
def execRsv83 (s : State) : Out :=
  reserved 0x83 s

/-- 0x8B RSV_8B (R270). -/
def execRsv8B (s : State) : Out :=
  reserved 0x8B s

/-- 0x93 RSV_93 (R270). -/
def execRsv93 (s : State) : Out :=
  reserved 0x93 s

/-- 0x9B RSV_9B (R270). -/
def execRsv9B (s : State) : Out :=
  reserved 0x9B s

/-- 0xA3 RSV_A3 (R270). -/
def execRsvA3 (s : State) : Out :=
  reserved 0xA3 s

/-- 0xAB RSV_AB (R270). -/
def execRsvAB (s : State) : Out :=
  reserved 0xAB s

/-- 0xB3 RSV_B3 (R270). -/
def execRsvB3 (s : State) : Out :=
  reserved 0xB3 s

/-- 0xBB RSV_BB (R270). -/
def execRsvBB (s : State) : Out :=
  reserved 0xBB s

/-- 0xC2 RSV_C2 (R270). -/
def execRsvC2 (_b1 : Skipped) (s : State) : Out :=
  reserved 0xC2 s

/-- 0xC3 RSV_C3 (R270). -/
def execRsvC3 (s : State) : Out :=
  reserved 0xC3 s

/-- 0xCB RSV_CB (R270). -/
def execRsvCB (s : State) : Out :=
  reserved 0xCB s

/-- 0xD3 RSV_D3 (R270). -/
def execRsvD3 (s : State) : Out :=
  reserved 0xD3 s

/-- 0xD4 RSV_D4 (R270). -/
def execRsvD4 (_b1 : Skipped) (s : State) : Out :=
  reserved 0xD4 s

/-- 0xDB RSV_DB (R270). -/
def execRsvDB (s : State) : Out :=
  reserved 0xDB s

/-- 0xDC RSV_DC (R270). -/
def execRsvDC (_b1 _b2 : Skipped) (s : State) : Out :=
  reserved 0xDC s

/-- 0xE2 RSV_E2 (R270). -/
def execRsvE2 (_b1 : Skipped) (s : State) : Out :=
  reserved 0xE2 s

/-- 0xE3 RSV_E3 (R270). -/
def execRsvE3 (s : State) : Out :=
  reserved 0xE3 s

/-- 0xEB RSV_EB (R270). -/
def execRsvEB (s : State) : Out :=
  reserved 0xEB s

/-- 0xF3 RSV_F3 (R270). -/
def execRsvF3 (s : State) : Out :=
  reserved 0xF3 s

/-- 0xF4 RSV_F4 (R270). -/
def execRsvF4 (_b1 : Skipped) (s : State) : Out :=
  reserved 0xF4 s

/-- 0xFB RSV_FB (R270). -/
def execRsvFB (s : State) : Out :=
  reserved 0xFB s

/-- 0xFC RSV_FC (R270). -/
def execRsvFC (_b1 _b2 : Skipped) (s : State) : Out :=
  reserved 0xFC s

end Sys2Proof.Machine
end

