-- ==== Sys2Proof/Machine/StackFlag.lean ====
section
/-! DEFINITION. Pushes, pulls, flag instructions, NOP, BRK and RTI (44_stack_flag_system.md, R252 to R269). -/

namespace Sys2Proof.Machine

/-- `Push8(v); pc <- pc + 1`, no flag (R252 to R255). -/
def pushByte (v : Byte) (s : State) : Out :=
  .next ((s.push dataPlace v).advance 1)

/-- `P` becomes `p`, then `pc <- pc + 1`: PLP (R257), the flag instructions (R260 to R266), and NOP with `P` as it is
(R267). -/
def setP (p : Flags) (s : State) : Out :=
  .next { s.advance 1 with p := p }

/-- BRK: the interrupt entry with the return address `pc + 2`, b = 1, and the vector IRQ uses (R268, R305, R307). -/
def breakEntry (s : State) : Out :=
  .next (s.enterInterrupt irqVector true (s.pc + 2))

/-- RTI (R269). -/
def interruptReturn (s : State) : Out :=
  .next s.returnFromInterrupt

/-- 0x48 PHA, Implied (R252). -/
def execPha (s : State) : Out :=
  pushByte s.a s

/-- 0x08 PHP, Implied (R253). -/
def execPhp (s : State) : Out :=
  pushByte (s.p.image true) s

/-- 0xDA PHX, Implied (R254). -/
def execPhx (s : State) : Out :=
  pushByte s.x s

/-- 0x5A PHY, Implied (R255). -/
def execPhy (s : State) : Out :=
  pushByte s.y s

/-- 0x68 PLA, Implied (R256). -/
def execPla (s : State) : Out :=
  lda (s.pulled dataPlace) 1 s.pull

/-- 0x28 PLP, Implied (R257). -/
def execPlp (s : State) : Out :=
  setP (Flags.ofByte (s.pulled dataPlace)) s.pull

/-- 0xFA PLX, Implied (R258). -/
def execPlx (s : State) : Out :=
  ldx (s.pulled dataPlace) 1 s.pull

/-- 0x7A PLY, Implied (R259). -/
def execPly (s : State) : Out :=
  ldy (s.pulled dataPlace) 1 s.pull

/-- 0x18 CLC, Implied (R260). -/
def execClc (s : State) : Out :=
  setP { s.p with c := false } s

/-- 0xD8 CLD, Implied (R261). -/
def execCld (s : State) : Out :=
  setP { s.p with d := false } s

/-- 0x58 CLI, Implied (R262). -/
def execCli (s : State) : Out :=
  setP { s.p with i := false } s

/-- 0xB8 CLV, Implied (R263). -/
def execClv (s : State) : Out :=
  setP { s.p with v := false } s

/-- 0x38 SEC, Implied (R264). -/
def execSec (s : State) : Out :=
  setP { s.p with c := true } s

/-- 0xF8 SED, Implied (R265). -/
def execSed (s : State) : Out :=
  setP { s.p with d := true } s

/-- 0x78 SEI, Implied (R266). -/
def execSei (s : State) : Out :=
  setP { s.p with i := true } s

/-- 0xEA NOP, Implied (R267). -/
def execNop (s : State) : Out :=
  setP s.p s

/-- 0x00 BRK, Implied (R268). -/
def execBrk (s : State) : Out :=
  breakEntry s

/-- 0x40 RTI, Implied (R269). -/
def execRti (s : State) : Out :=
  interruptReturn s

end Sys2Proof.Machine
end

