-- ==== Sys2Proof/Machine/Dispatch.lean ====
section
/-! DEFINITION. One arm for each instruction, one direct call of its meaning. -/

namespace Sys2Proof.Machine

def exec (i : Instr) (s : State) : Host.Outcome State Fault Refusal :=
  match i with
  | .brk => Sys2Proof.Machine.execBrk s
  | .oraIndX zp => Sys2Proof.Machine.execOraIndX zp s
  | .rsv02 b1 => Sys2Proof.Machine.execRsv02 b1 s
  | .rsv03 => Sys2Proof.Machine.execRsv03 s
  | .tsbZp zp => Sys2Proof.Machine.execTsbZp zp s
  | .oraZp zp => Sys2Proof.Machine.execOraZp zp s
  | .aslZp zp => Sys2Proof.Machine.execAslZp zp s
  | .rmb0 zp => Sys2Proof.Machine.execRmb0 zp s
  | .php => Sys2Proof.Machine.execPhp s
  | .oraImm imm => Sys2Proof.Machine.execOraImm imm s
  | .aslAcc => Sys2Proof.Machine.execAslAcc s
  | .rsv0B => Sys2Proof.Machine.execRsv0B s
  | .tsbAbs addr => Sys2Proof.Machine.execTsbAbs addr s
  | .oraAbs addr => Sys2Proof.Machine.execOraAbs addr s
  | .aslAbs addr => Sys2Proof.Machine.execAslAbs addr s
  | .bbr0 zp rel => Sys2Proof.Machine.execBbr0 zp rel s
  | .bpl rel => Sys2Proof.Machine.execBpl rel s
  | .oraIndY zp => Sys2Proof.Machine.execOraIndY zp s
  | .oraInd zp => Sys2Proof.Machine.execOraInd zp s
  | .rsv13 => Sys2Proof.Machine.execRsv13 s
  | .trbZp zp => Sys2Proof.Machine.execTrbZp zp s
  | .oraZpX zp => Sys2Proof.Machine.execOraZpX zp s
  | .aslZpX zp => Sys2Proof.Machine.execAslZpX zp s
  | .rmb1 zp => Sys2Proof.Machine.execRmb1 zp s
  | .clc => Sys2Proof.Machine.execClc s
  | .oraAbsY addr => Sys2Proof.Machine.execOraAbsY addr s
  | .incAcc => Sys2Proof.Machine.execIncAcc s
  | .rsv1B => Sys2Proof.Machine.execRsv1B s
  | .trbAbs addr => Sys2Proof.Machine.execTrbAbs addr s
  | .oraAbsX addr => Sys2Proof.Machine.execOraAbsX addr s
  | .aslAbsX addr => Sys2Proof.Machine.execAslAbsX addr s
  | .bbr1 zp rel => Sys2Proof.Machine.execBbr1 zp rel s
  | .jsr addr => Sys2Proof.Machine.execJsr addr s
  | .andIndX zp => Sys2Proof.Machine.execAndIndX zp s
  | .rsv22 b1 => Sys2Proof.Machine.execRsv22 b1 s
  | .rsv23 => Sys2Proof.Machine.execRsv23 s
  | .bitZp zp => Sys2Proof.Machine.execBitZp zp s
  | .andZp zp => Sys2Proof.Machine.execAndZp zp s
  | .rolZp zp => Sys2Proof.Machine.execRolZp zp s
  | .rmb2 zp => Sys2Proof.Machine.execRmb2 zp s
  | .plp => Sys2Proof.Machine.execPlp s
  | .andImm imm => Sys2Proof.Machine.execAndImm imm s
  | .rolAcc => Sys2Proof.Machine.execRolAcc s
  | .rsv2B => Sys2Proof.Machine.execRsv2B s
  | .bitAbs addr => Sys2Proof.Machine.execBitAbs addr s
  | .andAbs addr => Sys2Proof.Machine.execAndAbs addr s
  | .rolAbs addr => Sys2Proof.Machine.execRolAbs addr s
  | .bbr2 zp rel => Sys2Proof.Machine.execBbr2 zp rel s
  | .bmi rel => Sys2Proof.Machine.execBmi rel s
  | .andIndY zp => Sys2Proof.Machine.execAndIndY zp s
  | .andInd zp => Sys2Proof.Machine.execAndInd zp s
  | .rsv33 => Sys2Proof.Machine.execRsv33 s
  | .bitZpX zp => Sys2Proof.Machine.execBitZpX zp s
  | .andZpX zp => Sys2Proof.Machine.execAndZpX zp s
  | .rolZpX zp => Sys2Proof.Machine.execRolZpX zp s
  | .rmb3 zp => Sys2Proof.Machine.execRmb3 zp s
  | .sec => Sys2Proof.Machine.execSec s
  | .andAbsY addr => Sys2Proof.Machine.execAndAbsY addr s
  | .decAcc => Sys2Proof.Machine.execDecAcc s
  | .rsv3B => Sys2Proof.Machine.execRsv3B s
  | .bitAbsX addr => Sys2Proof.Machine.execBitAbsX addr s
  | .andAbsX addr => Sys2Proof.Machine.execAndAbsX addr s
  | .rolAbsX addr => Sys2Proof.Machine.execRolAbsX addr s
  | .bbr3 zp rel => Sys2Proof.Machine.execBbr3 zp rel s
  | .rti => Sys2Proof.Machine.execRti s
  | .eorIndX zp => Sys2Proof.Machine.execEorIndX zp s
  | .rsv42 b1 => Sys2Proof.Machine.execRsv42 b1 s
  | .rsv43 => Sys2Proof.Machine.execRsv43 s
  | .rsv44 b1 => Sys2Proof.Machine.execRsv44 b1 s
  | .eorZp zp => Sys2Proof.Machine.execEorZp zp s
  | .lsrZp zp => Sys2Proof.Machine.execLsrZp zp s
  | .rmb4 zp => Sys2Proof.Machine.execRmb4 zp s
  | .pha => Sys2Proof.Machine.execPha s
  | .eorImm imm => Sys2Proof.Machine.execEorImm imm s
  | .lsrAcc => Sys2Proof.Machine.execLsrAcc s
  | .rsv4B => Sys2Proof.Machine.execRsv4B s
  | .jmpAbs addr => Sys2Proof.Machine.execJmpAbs addr s
  | .eorAbs addr => Sys2Proof.Machine.execEorAbs addr s
  | .lsrAbs addr => Sys2Proof.Machine.execLsrAbs addr s
  | .bbr4 zp rel => Sys2Proof.Machine.execBbr4 zp rel s
  | .bvc rel => Sys2Proof.Machine.execBvc rel s
  | .eorIndY zp => Sys2Proof.Machine.execEorIndY zp s
  | .eorInd zp => Sys2Proof.Machine.execEorInd zp s
  | .rsv53 => Sys2Proof.Machine.execRsv53 s
  | .rsv54 b1 => Sys2Proof.Machine.execRsv54 b1 s
  | .eorZpX zp => Sys2Proof.Machine.execEorZpX zp s
  | .lsrZpX zp => Sys2Proof.Machine.execLsrZpX zp s
  | .rmb5 zp => Sys2Proof.Machine.execRmb5 zp s
  | .cli => Sys2Proof.Machine.execCli s
  | .eorAbsY addr => Sys2Proof.Machine.execEorAbsY addr s
  | .phy => Sys2Proof.Machine.execPhy s
  | .rsv5B => Sys2Proof.Machine.execRsv5B s
  | .rsv5C b1 b2 => Sys2Proof.Machine.execRsv5C b1 b2 s
  | .eorAbsX addr => Sys2Proof.Machine.execEorAbsX addr s
  | .lsrAbsX addr => Sys2Proof.Machine.execLsrAbsX addr s
  | .bbr5 zp rel => Sys2Proof.Machine.execBbr5 zp rel s
  | .rts => Sys2Proof.Machine.execRts s
  | .adcIndX zp => Sys2Proof.Machine.execAdcIndX zp s
  | .rsv62 b1 => Sys2Proof.Machine.execRsv62 b1 s
  | .rsv63 => Sys2Proof.Machine.execRsv63 s
  | .stzZp zp => Sys2Proof.Machine.execStzZp zp s
  | .adcZp zp => Sys2Proof.Machine.execAdcZp zp s
  | .rorZp zp => Sys2Proof.Machine.execRorZp zp s
  | .rmb6 zp => Sys2Proof.Machine.execRmb6 zp s
  | .pla => Sys2Proof.Machine.execPla s
  | .adcImm imm => Sys2Proof.Machine.execAdcImm imm s
  | .rorAcc => Sys2Proof.Machine.execRorAcc s
  | .rsv6B => Sys2Proof.Machine.execRsv6B s
  | .jmpInd addr => Sys2Proof.Machine.execJmpInd addr s
  | .adcAbs addr => Sys2Proof.Machine.execAdcAbs addr s
  | .rorAbs addr => Sys2Proof.Machine.execRorAbs addr s
  | .bbr6 zp rel => Sys2Proof.Machine.execBbr6 zp rel s
  | .bvs rel => Sys2Proof.Machine.execBvs rel s
  | .adcIndY zp => Sys2Proof.Machine.execAdcIndY zp s
  | .adcInd zp => Sys2Proof.Machine.execAdcInd zp s
  | .rsv73 => Sys2Proof.Machine.execRsv73 s
  | .stzZpX zp => Sys2Proof.Machine.execStzZpX zp s
  | .adcZpX zp => Sys2Proof.Machine.execAdcZpX zp s
  | .rorZpX zp => Sys2Proof.Machine.execRorZpX zp s
  | .rmb7 zp => Sys2Proof.Machine.execRmb7 zp s
  | .sei => Sys2Proof.Machine.execSei s
  | .adcAbsY addr => Sys2Proof.Machine.execAdcAbsY addr s
  | .ply => Sys2Proof.Machine.execPly s
  | .rsv7B => Sys2Proof.Machine.execRsv7B s
  | .jmpIndX addr => Sys2Proof.Machine.execJmpIndX addr s
  | .adcAbsX addr => Sys2Proof.Machine.execAdcAbsX addr s
  | .rorAbsX addr => Sys2Proof.Machine.execRorAbsX addr s
  | .bbr7 zp rel => Sys2Proof.Machine.execBbr7 zp rel s
  | .bra rel => Sys2Proof.Machine.execBra rel s
  | .staIndX zp => Sys2Proof.Machine.execStaIndX zp s
  | .rsv82 b1 => Sys2Proof.Machine.execRsv82 b1 s
  | .rsv83 => Sys2Proof.Machine.execRsv83 s
  | .styZp zp => Sys2Proof.Machine.execStyZp zp s
  | .staZp zp => Sys2Proof.Machine.execStaZp zp s
  | .stxZp zp => Sys2Proof.Machine.execStxZp zp s
  | .smb0 zp => Sys2Proof.Machine.execSmb0 zp s
  | .dey => Sys2Proof.Machine.execDey s
  | .bitImm imm => Sys2Proof.Machine.execBitImm imm s
  | .txa => Sys2Proof.Machine.execTxa s
  | .rsv8B => Sys2Proof.Machine.execRsv8B s
  | .styAbs addr => Sys2Proof.Machine.execStyAbs addr s
  | .staAbs addr => Sys2Proof.Machine.execStaAbs addr s
  | .stxAbs addr => Sys2Proof.Machine.execStxAbs addr s
  | .bbs0 zp rel => Sys2Proof.Machine.execBbs0 zp rel s
  | .bcc rel => Sys2Proof.Machine.execBcc rel s
  | .staIndY zp => Sys2Proof.Machine.execStaIndY zp s
  | .staInd zp => Sys2Proof.Machine.execStaInd zp s
  | .rsv93 => Sys2Proof.Machine.execRsv93 s
  | .styZpX zp => Sys2Proof.Machine.execStyZpX zp s
  | .staZpX zp => Sys2Proof.Machine.execStaZpX zp s
  | .stxZpY zp => Sys2Proof.Machine.execStxZpY zp s
  | .smb1 zp => Sys2Proof.Machine.execSmb1 zp s
  | .tya => Sys2Proof.Machine.execTya s
  | .staAbsY addr => Sys2Proof.Machine.execStaAbsY addr s
  | .txs => Sys2Proof.Machine.execTxs s
  | .rsv9B => Sys2Proof.Machine.execRsv9B s
  | .stzAbs addr => Sys2Proof.Machine.execStzAbs addr s
  | .staAbsX addr => Sys2Proof.Machine.execStaAbsX addr s
  | .stzAbsX addr => Sys2Proof.Machine.execStzAbsX addr s
  | .bbs1 zp rel => Sys2Proof.Machine.execBbs1 zp rel s
  | .ldyImm imm => Sys2Proof.Machine.execLdyImm imm s
  | .ldaIndX zp => Sys2Proof.Machine.execLdaIndX zp s
  | .ldxImm imm => Sys2Proof.Machine.execLdxImm imm s
  | .rsvA3 => Sys2Proof.Machine.execRsvA3 s
  | .ldyZp zp => Sys2Proof.Machine.execLdyZp zp s
  | .ldaZp zp => Sys2Proof.Machine.execLdaZp zp s
  | .ldxZp zp => Sys2Proof.Machine.execLdxZp zp s
  | .smb2 zp => Sys2Proof.Machine.execSmb2 zp s
  | .tay => Sys2Proof.Machine.execTay s
  | .ldaImm imm => Sys2Proof.Machine.execLdaImm imm s
  | .tax => Sys2Proof.Machine.execTax s
  | .rsvAB => Sys2Proof.Machine.execRsvAB s
  | .ldyAbs addr => Sys2Proof.Machine.execLdyAbs addr s
  | .ldaAbs addr => Sys2Proof.Machine.execLdaAbs addr s
  | .ldxAbs addr => Sys2Proof.Machine.execLdxAbs addr s
  | .bbs2 zp rel => Sys2Proof.Machine.execBbs2 zp rel s
  | .bcs rel => Sys2Proof.Machine.execBcs rel s
  | .ldaIndY zp => Sys2Proof.Machine.execLdaIndY zp s
  | .ldaInd zp => Sys2Proof.Machine.execLdaInd zp s
  | .rsvB3 => Sys2Proof.Machine.execRsvB3 s
  | .ldyZpX zp => Sys2Proof.Machine.execLdyZpX zp s
  | .ldaZpX zp => Sys2Proof.Machine.execLdaZpX zp s
  | .ldxZpY zp => Sys2Proof.Machine.execLdxZpY zp s
  | .smb3 zp => Sys2Proof.Machine.execSmb3 zp s
  | .clv => Sys2Proof.Machine.execClv s
  | .ldaAbsY addr => Sys2Proof.Machine.execLdaAbsY addr s
  | .tsx => Sys2Proof.Machine.execTsx s
  | .rsvBB => Sys2Proof.Machine.execRsvBB s
  | .ldyAbsX addr => Sys2Proof.Machine.execLdyAbsX addr s
  | .ldaAbsX addr => Sys2Proof.Machine.execLdaAbsX addr s
  | .ldxAbsY addr => Sys2Proof.Machine.execLdxAbsY addr s
  | .bbs3 zp rel => Sys2Proof.Machine.execBbs3 zp rel s
  | .cpyImm imm => Sys2Proof.Machine.execCpyImm imm s
  | .cmpIndX zp => Sys2Proof.Machine.execCmpIndX zp s
  | .rsvC2 b1 => Sys2Proof.Machine.execRsvC2 b1 s
  | .rsvC3 => Sys2Proof.Machine.execRsvC3 s
  | .cpyZp zp => Sys2Proof.Machine.execCpyZp zp s
  | .cmpZp zp => Sys2Proof.Machine.execCmpZp zp s
  | .decZp zp => Sys2Proof.Machine.execDecZp zp s
  | .smb4 zp => Sys2Proof.Machine.execSmb4 zp s
  | .iny => Sys2Proof.Machine.execIny s
  | .cmpImm imm => Sys2Proof.Machine.execCmpImm imm s
  | .dex => Sys2Proof.Machine.execDex s
  | .rsvCB => Sys2Proof.Machine.execRsvCB s
  | .cpyAbs addr => Sys2Proof.Machine.execCpyAbs addr s
  | .cmpAbs addr => Sys2Proof.Machine.execCmpAbs addr s
  | .decAbs addr => Sys2Proof.Machine.execDecAbs addr s
  | .bbs4 zp rel => Sys2Proof.Machine.execBbs4 zp rel s
  | .bne rel => Sys2Proof.Machine.execBne rel s
  | .cmpIndY zp => Sys2Proof.Machine.execCmpIndY zp s
  | .cmpInd zp => Sys2Proof.Machine.execCmpInd zp s
  | .rsvD3 => Sys2Proof.Machine.execRsvD3 s
  | .rsvD4 b1 => Sys2Proof.Machine.execRsvD4 b1 s
  | .cmpZpX zp => Sys2Proof.Machine.execCmpZpX zp s
  | .decZpX zp => Sys2Proof.Machine.execDecZpX zp s
  | .smb5 zp => Sys2Proof.Machine.execSmb5 zp s
  | .cld => Sys2Proof.Machine.execCld s
  | .cmpAbsY addr => Sys2Proof.Machine.execCmpAbsY addr s
  | .phx => Sys2Proof.Machine.execPhx s
  | .rsvDB => Sys2Proof.Machine.execRsvDB s
  | .rsvDC b1 b2 => Sys2Proof.Machine.execRsvDC b1 b2 s
  | .cmpAbsX addr => Sys2Proof.Machine.execCmpAbsX addr s
  | .decAbsX addr => Sys2Proof.Machine.execDecAbsX addr s
  | .bbs5 zp rel => Sys2Proof.Machine.execBbs5 zp rel s
  | .cpxImm imm => Sys2Proof.Machine.execCpxImm imm s
  | .sbcIndX zp => Sys2Proof.Machine.execSbcIndX zp s
  | .rsvE2 b1 => Sys2Proof.Machine.execRsvE2 b1 s
  | .rsvE3 => Sys2Proof.Machine.execRsvE3 s
  | .cpxZp zp => Sys2Proof.Machine.execCpxZp zp s
  | .sbcZp zp => Sys2Proof.Machine.execSbcZp zp s
  | .incZp zp => Sys2Proof.Machine.execIncZp zp s
  | .smb6 zp => Sys2Proof.Machine.execSmb6 zp s
  | .inx => Sys2Proof.Machine.execInx s
  | .sbcImm imm => Sys2Proof.Machine.execSbcImm imm s
  | .nop => Sys2Proof.Machine.execNop s
  | .rsvEB => Sys2Proof.Machine.execRsvEB s
  | .cpxAbs addr => Sys2Proof.Machine.execCpxAbs addr s
  | .sbcAbs addr => Sys2Proof.Machine.execSbcAbs addr s
  | .incAbs addr => Sys2Proof.Machine.execIncAbs addr s
  | .bbs6 zp rel => Sys2Proof.Machine.execBbs6 zp rel s
  | .beq rel => Sys2Proof.Machine.execBeq rel s
  | .sbcIndY zp => Sys2Proof.Machine.execSbcIndY zp s
  | .sbcInd zp => Sys2Proof.Machine.execSbcInd zp s
  | .rsvF3 => Sys2Proof.Machine.execRsvF3 s
  | .rsvF4 b1 => Sys2Proof.Machine.execRsvF4 b1 s
  | .sbcZpX zp => Sys2Proof.Machine.execSbcZpX zp s
  | .incZpX zp => Sys2Proof.Machine.execIncZpX zp s
  | .smb7 zp => Sys2Proof.Machine.execSmb7 zp s
  | .sed => Sys2Proof.Machine.execSed s
  | .sbcAbsY addr => Sys2Proof.Machine.execSbcAbsY addr s
  | .plx => Sys2Proof.Machine.execPlx s
  | .rsvFB => Sys2Proof.Machine.execRsvFB s
  | .rsvFC b1 b2 => Sys2Proof.Machine.execRsvFC b1 b2 s
  | .sbcAbsX addr => Sys2Proof.Machine.execSbcAbsX addr s
  | .incAbsX addr => Sys2Proof.Machine.execIncAbsX addr s
  | .bbs7 zp rel => Sys2Proof.Machine.execBbs7 zp rel s

end Sys2Proof.Machine
end

