-- ==== Sys2Proof/Machine/Timing.lean ====
section
/-! DEFINITION. What the op-code map says of each op code beside its meaning: the operand form, the accesses that carry
data, the machine cycles and their footnotes (R121, R360). Timing information only: no register, flag or byte of memory
depends on it (R360). -/

namespace Sys2Proof.Machine

/-- The operand forms (R104 to R119), and the unassigned op codes' (R125). -/
inductive Mode where
  | implied
  | accum
  | imm
  | zp
  | zpX
  | zpY
  | abs
  | absX
  | absY
  | absInd
  | absIndX
  | indX
  | indY
  | ind
  | relative
  | zpRel
  | reserved
deriving DecidableEq, Repr

/-- The accesses an instruction makes for its data, after its fetches and the reads of its operand form. -/
inductive DataAccess where
  /-- None. -/
  | none
  /-- One read of the effective address (R140 (b)). -/
  | read
  /-- One write of the effective address (R144). -/
  | write
  /-- Read, read, write, with ML in the last two (R72, R73). -/
  | modify
  /-- Read, read, write of RMB and SMB, whose ML is not stated (R72, R73, D23). -/
  | modifyBit
  /-- Writes of the stack (R25). -/
  | push (n : Nat)
  /-- Reads of the stack (R26). -/
  | pull (n : Nat)
  /-- Three writes of the stack and the two reads of the vector (R268, R305). -/
  | breakEntry
deriving DecidableEq, Repr

/-- The matrix's footnotes and Table 2's extra cycle (R360). -/
inductive Footnote where
  /-- The count is fixed. -/
  | none
  /-- Add 1 if a page boundary is crossed. -/
  | page
  /-- Add 1 in decimal mode. -/
  | decimal
  /-- Both of the above. -/
  | pageDecimal
  /-- Add 1 if the branch occurs to the same page, 2 if to a different page. -/
  | branch
  /-- BRA: add 1 if the branch crosses a page boundary (R227). -/
  | branchPage
  /-- JMP (ABS): add 1 if the low byte of the operand is 0xFF (R232, `90_conflicts.md` C4). -/
  | pointerPage
deriving DecidableEq, Repr

/-- One cell of the op-code map, with the data accesses of the instruction's rule and whether the rule writes V. -/
structure Info where
  mode : Mode
  data : DataAccess
  cycles : Nat
  footnote : Footnote
  writesV : Bool
deriving DecidableEq, Repr

/-- The cell of each instruction (R121, R360); an unassigned op code's count is the parameter `RsvCycles` (R125). -/
def info : Instr → Info
  | .brk => ⟨.implied, .breakEntry, 7, .none, false⟩
  | .oraIndX _ => ⟨.indX, .read, 6, .none, false⟩
  | .rsv02 _ => ⟨.reserved, .none, Config.rsvCycles 0x02, .none, false⟩
  | .rsv03 => ⟨.reserved, .none, Config.rsvCycles 0x03, .none, false⟩
  | .tsbZp _ => ⟨.zp, .modify, 5, .none, false⟩
  | .oraZp _ => ⟨.zp, .read, 3, .none, false⟩
  | .aslZp _ => ⟨.zp, .modify, 5, .none, false⟩
  | .rmb0 _ => ⟨.zp, .modifyBit, 5, .none, false⟩
  | .php => ⟨.implied, (.push 1), 3, .none, false⟩
  | .oraImm _ => ⟨.imm, .none, 2, .none, false⟩
  | .aslAcc => ⟨.accum, .none, 2, .none, false⟩
  | .rsv0B => ⟨.reserved, .none, Config.rsvCycles 0x0B, .none, false⟩
  | .tsbAbs _ => ⟨.abs, .modify, 6, .none, false⟩
  | .oraAbs _ => ⟨.abs, .read, 4, .none, false⟩
  | .aslAbs _ => ⟨.abs, .modify, 6, .none, false⟩
  | .bbr0 _ _ => ⟨.zpRel, .read, 5, .branch, false⟩
  | .bpl _ => ⟨.relative, .none, 2, .branch, false⟩
  | .oraIndY _ => ⟨.indY, .read, 5, .page, false⟩
  | .oraInd _ => ⟨.ind, .read, 5, .none, false⟩
  | .rsv13 => ⟨.reserved, .none, Config.rsvCycles 0x13, .none, false⟩
  | .trbZp _ => ⟨.zp, .modify, 5, .none, false⟩
  | .oraZpX _ => ⟨.zpX, .read, 4, .none, false⟩
  | .aslZpX _ => ⟨.zpX, .modify, 6, .none, false⟩
  | .rmb1 _ => ⟨.zp, .modifyBit, 5, .none, false⟩
  | .clc => ⟨.implied, .none, 2, .none, false⟩
  | .oraAbsY _ => ⟨.absY, .read, 4, .page, false⟩
  | .incAcc => ⟨.accum, .none, 2, .none, false⟩
  | .rsv1B => ⟨.reserved, .none, Config.rsvCycles 0x1B, .none, false⟩
  | .trbAbs _ => ⟨.abs, .modify, 6, .none, false⟩
  | .oraAbsX _ => ⟨.absX, .read, 4, .page, false⟩
  | .aslAbsX _ => ⟨.absX, .modify, 7, .none, false⟩
  | .bbr1 _ _ => ⟨.zpRel, .read, 5, .branch, false⟩
  | .jsr _ => ⟨.abs, (.push 2), 6, .none, false⟩
  | .andIndX _ => ⟨.indX, .read, 6, .none, false⟩
  | .rsv22 _ => ⟨.reserved, .none, Config.rsvCycles 0x22, .none, false⟩
  | .rsv23 => ⟨.reserved, .none, Config.rsvCycles 0x23, .none, false⟩
  | .bitZp _ => ⟨.zp, .read, 3, .none, true⟩
  | .andZp _ => ⟨.zp, .read, 3, .none, false⟩
  | .rolZp _ => ⟨.zp, .modify, 5, .none, false⟩
  | .rmb2 _ => ⟨.zp, .modifyBit, 5, .none, false⟩
  | .plp => ⟨.implied, (.pull 1), 4, .none, true⟩
  | .andImm _ => ⟨.imm, .none, 2, .none, false⟩
  | .rolAcc => ⟨.accum, .none, 2, .none, false⟩
  | .rsv2B => ⟨.reserved, .none, Config.rsvCycles 0x2B, .none, false⟩
  | .bitAbs _ => ⟨.abs, .read, 4, .none, true⟩
  | .andAbs _ => ⟨.abs, .read, 4, .none, false⟩
  | .rolAbs _ => ⟨.abs, .modify, 6, .none, false⟩
  | .bbr2 _ _ => ⟨.zpRel, .read, 5, .branch, false⟩
  | .bmi _ => ⟨.relative, .none, 2, .branch, false⟩
  | .andIndY _ => ⟨.indY, .read, 5, .page, false⟩
  | .andInd _ => ⟨.ind, .read, 5, .none, false⟩
  | .rsv33 => ⟨.reserved, .none, Config.rsvCycles 0x33, .none, false⟩
  | .bitZpX _ => ⟨.zpX, .read, 4, .none, true⟩
  | .andZpX _ => ⟨.zpX, .read, 4, .none, false⟩
  | .rolZpX _ => ⟨.zpX, .modify, 6, .none, false⟩
  | .rmb3 _ => ⟨.zp, .modifyBit, 5, .none, false⟩
  | .sec => ⟨.implied, .none, 2, .none, false⟩
  | .andAbsY _ => ⟨.absY, .read, 4, .page, false⟩
  | .decAcc => ⟨.accum, .none, 2, .none, false⟩
  | .rsv3B => ⟨.reserved, .none, Config.rsvCycles 0x3B, .none, false⟩
  | .bitAbsX _ => ⟨.absX, .read, 4, .page, true⟩
  | .andAbsX _ => ⟨.absX, .read, 4, .page, false⟩
  | .rolAbsX _ => ⟨.absX, .modify, 7, .none, false⟩
  | .bbr3 _ _ => ⟨.zpRel, .read, 5, .branch, false⟩
  | .rti => ⟨.implied, (.pull 3), 6, .none, true⟩
  | .eorIndX _ => ⟨.indX, .read, 6, .none, false⟩
  | .rsv42 _ => ⟨.reserved, .none, Config.rsvCycles 0x42, .none, false⟩
  | .rsv43 => ⟨.reserved, .none, Config.rsvCycles 0x43, .none, false⟩
  | .rsv44 _ => ⟨.reserved, .none, Config.rsvCycles 0x44, .none, false⟩
  | .eorZp _ => ⟨.zp, .read, 3, .none, false⟩
  | .lsrZp _ => ⟨.zp, .modify, 5, .none, false⟩
  | .rmb4 _ => ⟨.zp, .modifyBit, 5, .none, false⟩
  | .pha => ⟨.implied, (.push 1), 3, .none, false⟩
  | .eorImm _ => ⟨.imm, .none, 2, .none, false⟩
  | .lsrAcc => ⟨.accum, .none, 2, .none, false⟩
  | .rsv4B => ⟨.reserved, .none, Config.rsvCycles 0x4B, .none, false⟩
  | .jmpAbs _ => ⟨.abs, .none, 3, .none, false⟩
  | .eorAbs _ => ⟨.abs, .read, 4, .none, false⟩
  | .lsrAbs _ => ⟨.abs, .modify, 6, .none, false⟩
  | .bbr4 _ _ => ⟨.zpRel, .read, 5, .branch, false⟩
  | .bvc _ => ⟨.relative, .none, 2, .branch, false⟩
  | .eorIndY _ => ⟨.indY, .read, 5, .page, false⟩
  | .eorInd _ => ⟨.ind, .read, 5, .none, false⟩
  | .rsv53 => ⟨.reserved, .none, Config.rsvCycles 0x53, .none, false⟩
  | .rsv54 _ => ⟨.reserved, .none, Config.rsvCycles 0x54, .none, false⟩
  | .eorZpX _ => ⟨.zpX, .read, 4, .none, false⟩
  | .lsrZpX _ => ⟨.zpX, .modify, 6, .none, false⟩
  | .rmb5 _ => ⟨.zp, .modifyBit, 5, .none, false⟩
  | .cli => ⟨.implied, .none, 2, .none, false⟩
  | .eorAbsY _ => ⟨.absY, .read, 4, .page, false⟩
  | .phy => ⟨.implied, (.push 1), 3, .none, false⟩
  | .rsv5B => ⟨.reserved, .none, Config.rsvCycles 0x5B, .none, false⟩
  | .rsv5C _ _ => ⟨.reserved, .none, Config.rsvCycles 0x5C, .none, false⟩
  | .eorAbsX _ => ⟨.absX, .read, 4, .page, false⟩
  | .lsrAbsX _ => ⟨.absX, .modify, 7, .none, false⟩
  | .bbr5 _ _ => ⟨.zpRel, .read, 5, .branch, false⟩
  | .rts => ⟨.implied, (.pull 2), 6, .none, false⟩
  | .adcIndX _ => ⟨.indX, .read, 6, .decimal, true⟩
  | .rsv62 _ => ⟨.reserved, .none, Config.rsvCycles 0x62, .none, false⟩
  | .rsv63 => ⟨.reserved, .none, Config.rsvCycles 0x63, .none, false⟩
  | .stzZp _ => ⟨.zp, .write, 3, .none, false⟩
  | .adcZp _ => ⟨.zp, .read, 3, .decimal, true⟩
  | .rorZp _ => ⟨.zp, .modify, 5, .none, false⟩
  | .rmb6 _ => ⟨.zp, .modifyBit, 5, .none, false⟩
  | .pla => ⟨.implied, (.pull 1), 4, .none, false⟩
  | .adcImm _ => ⟨.imm, .none, 2, .decimal, true⟩
  | .rorAcc => ⟨.accum, .none, 2, .none, false⟩
  | .rsv6B => ⟨.reserved, .none, Config.rsvCycles 0x6B, .none, false⟩
  | .jmpInd _ => ⟨.absInd, .none, 6, .pointerPage, false⟩
  | .adcAbs _ => ⟨.abs, .read, 4, .decimal, true⟩
  | .rorAbs _ => ⟨.abs, .modify, 6, .none, false⟩
  | .bbr6 _ _ => ⟨.zpRel, .read, 5, .branch, false⟩
  | .bvs _ => ⟨.relative, .none, 2, .branch, false⟩
  | .adcIndY _ => ⟨.indY, .read, 5, .pageDecimal, true⟩
  | .adcInd _ => ⟨.ind, .read, 5, .decimal, true⟩
  | .rsv73 => ⟨.reserved, .none, Config.rsvCycles 0x73, .none, false⟩
  | .stzZpX _ => ⟨.zpX, .write, 4, .none, false⟩
  | .adcZpX _ => ⟨.zpX, .read, 4, .decimal, true⟩
  | .rorZpX _ => ⟨.zpX, .modify, 6, .none, false⟩
  | .rmb7 _ => ⟨.zp, .modifyBit, 5, .none, false⟩
  | .sei => ⟨.implied, .none, 2, .none, false⟩
  | .adcAbsY _ => ⟨.absY, .read, 4, .pageDecimal, true⟩
  | .ply => ⟨.implied, (.pull 1), 4, .none, false⟩
  | .rsv7B => ⟨.reserved, .none, Config.rsvCycles 0x7B, .none, false⟩
  | .jmpIndX _ => ⟨.absIndX, .none, 6, .none, false⟩
  | .adcAbsX _ => ⟨.absX, .read, 4, .pageDecimal, true⟩
  | .rorAbsX _ => ⟨.absX, .modify, 7, .none, false⟩
  | .bbr7 _ _ => ⟨.zpRel, .read, 5, .branch, false⟩
  | .bra _ => ⟨.relative, .none, 3, .branchPage, false⟩
  | .staIndX _ => ⟨.indX, .write, 6, .none, false⟩
  | .rsv82 _ => ⟨.reserved, .none, Config.rsvCycles 0x82, .none, false⟩
  | .rsv83 => ⟨.reserved, .none, Config.rsvCycles 0x83, .none, false⟩
  | .styZp _ => ⟨.zp, .write, 3, .none, false⟩
  | .staZp _ => ⟨.zp, .write, 3, .none, false⟩
  | .stxZp _ => ⟨.zp, .write, 3, .none, false⟩
  | .smb0 _ => ⟨.zp, .modifyBit, 5, .none, false⟩
  | .dey => ⟨.implied, .none, 2, .none, false⟩
  | .bitImm _ => ⟨.imm, .none, 2, .none, false⟩
  | .txa => ⟨.implied, .none, 2, .none, false⟩
  | .rsv8B => ⟨.reserved, .none, Config.rsvCycles 0x8B, .none, false⟩
  | .styAbs _ => ⟨.abs, .write, 4, .none, false⟩
  | .staAbs _ => ⟨.abs, .write, 4, .none, false⟩
  | .stxAbs _ => ⟨.abs, .write, 4, .none, false⟩
  | .bbs0 _ _ => ⟨.zpRel, .read, 5, .branch, false⟩
  | .bcc _ => ⟨.relative, .none, 2, .branch, false⟩
  | .staIndY _ => ⟨.indY, .write, 6, .none, false⟩
  | .staInd _ => ⟨.ind, .write, 5, .none, false⟩
  | .rsv93 => ⟨.reserved, .none, Config.rsvCycles 0x93, .none, false⟩
  | .styZpX _ => ⟨.zpX, .write, 4, .none, false⟩
  | .staZpX _ => ⟨.zpX, .write, 4, .none, false⟩
  | .stxZpY _ => ⟨.zpY, .write, 4, .none, false⟩
  | .smb1 _ => ⟨.zp, .modifyBit, 5, .none, false⟩
  | .tya => ⟨.implied, .none, 2, .none, false⟩
  | .staAbsY _ => ⟨.absY, .write, 5, .none, false⟩
  | .txs => ⟨.implied, .none, 2, .none, false⟩
  | .rsv9B => ⟨.reserved, .none, Config.rsvCycles 0x9B, .none, false⟩
  | .stzAbs _ => ⟨.abs, .write, 4, .none, false⟩
  | .staAbsX _ => ⟨.absX, .write, 5, .none, false⟩
  | .stzAbsX _ => ⟨.absX, .write, 5, .none, false⟩
  | .bbs1 _ _ => ⟨.zpRel, .read, 5, .branch, false⟩
  | .ldyImm _ => ⟨.imm, .none, 2, .none, false⟩
  | .ldaIndX _ => ⟨.indX, .read, 6, .none, false⟩
  | .ldxImm _ => ⟨.imm, .none, 2, .none, false⟩
  | .rsvA3 => ⟨.reserved, .none, Config.rsvCycles 0xA3, .none, false⟩
  | .ldyZp _ => ⟨.zp, .read, 3, .none, false⟩
  | .ldaZp _ => ⟨.zp, .read, 3, .none, false⟩
  | .ldxZp _ => ⟨.zp, .read, 3, .none, false⟩
  | .smb2 _ => ⟨.zp, .modifyBit, 5, .none, false⟩
  | .tay => ⟨.implied, .none, 2, .none, false⟩
  | .ldaImm _ => ⟨.imm, .none, 2, .none, false⟩
  | .tax => ⟨.implied, .none, 2, .none, false⟩
  | .rsvAB => ⟨.reserved, .none, Config.rsvCycles 0xAB, .none, false⟩
  | .ldyAbs _ => ⟨.abs, .read, 4, .none, false⟩
  | .ldaAbs _ => ⟨.abs, .read, 4, .none, false⟩
  | .ldxAbs _ => ⟨.abs, .read, 4, .none, false⟩
  | .bbs2 _ _ => ⟨.zpRel, .read, 5, .branch, false⟩
  | .bcs _ => ⟨.relative, .none, 2, .branch, false⟩
  | .ldaIndY _ => ⟨.indY, .read, 5, .page, false⟩
  | .ldaInd _ => ⟨.ind, .read, 5, .none, false⟩
  | .rsvB3 => ⟨.reserved, .none, Config.rsvCycles 0xB3, .none, false⟩
  | .ldyZpX _ => ⟨.zpX, .read, 4, .none, false⟩
  | .ldaZpX _ => ⟨.zpX, .read, 4, .none, false⟩
  | .ldxZpY _ => ⟨.zpY, .read, 4, .none, false⟩
  | .smb3 _ => ⟨.zp, .modifyBit, 5, .none, false⟩
  | .clv => ⟨.implied, .none, 2, .none, true⟩
  | .ldaAbsY _ => ⟨.absY, .read, 4, .page, false⟩
  | .tsx => ⟨.implied, .none, 2, .none, false⟩
  | .rsvBB => ⟨.reserved, .none, Config.rsvCycles 0xBB, .none, false⟩
  | .ldyAbsX _ => ⟨.absX, .read, 4, .page, false⟩
  | .ldaAbsX _ => ⟨.absX, .read, 4, .page, false⟩
  | .ldxAbsY _ => ⟨.absY, .read, 4, .page, false⟩
  | .bbs3 _ _ => ⟨.zpRel, .read, 5, .branch, false⟩
  | .cpyImm _ => ⟨.imm, .none, 2, .none, false⟩
  | .cmpIndX _ => ⟨.indX, .read, 6, .none, false⟩
  | .rsvC2 _ => ⟨.reserved, .none, Config.rsvCycles 0xC2, .none, false⟩
  | .rsvC3 => ⟨.reserved, .none, Config.rsvCycles 0xC3, .none, false⟩
  | .cpyZp _ => ⟨.zp, .read, 3, .none, false⟩
  | .cmpZp _ => ⟨.zp, .read, 3, .none, false⟩
  | .decZp _ => ⟨.zp, .modify, 5, .none, false⟩
  | .smb4 _ => ⟨.zp, .modifyBit, 5, .none, false⟩
  | .iny => ⟨.implied, .none, 2, .none, false⟩
  | .cmpImm _ => ⟨.imm, .none, 2, .none, false⟩
  | .dex => ⟨.implied, .none, 2, .none, false⟩
  | .rsvCB => ⟨.reserved, .none, Config.rsvCycles 0xCB, .none, false⟩
  | .cpyAbs _ => ⟨.abs, .read, 4, .none, false⟩
  | .cmpAbs _ => ⟨.abs, .read, 4, .none, false⟩
  | .decAbs _ => ⟨.abs, .modify, 6, .none, false⟩
  | .bbs4 _ _ => ⟨.zpRel, .read, 5, .branch, false⟩
  | .bne _ => ⟨.relative, .none, 2, .branch, false⟩
  | .cmpIndY _ => ⟨.indY, .read, 5, .page, false⟩
  | .cmpInd _ => ⟨.ind, .read, 5, .none, false⟩
  | .rsvD3 => ⟨.reserved, .none, Config.rsvCycles 0xD3, .none, false⟩
  | .rsvD4 _ => ⟨.reserved, .none, Config.rsvCycles 0xD4, .none, false⟩
  | .cmpZpX _ => ⟨.zpX, .read, 4, .none, false⟩
  | .decZpX _ => ⟨.zpX, .modify, 6, .none, false⟩
  | .smb5 _ => ⟨.zp, .modifyBit, 5, .none, false⟩
  | .cld => ⟨.implied, .none, 2, .none, false⟩
  | .cmpAbsY _ => ⟨.absY, .read, 4, .page, false⟩
  | .phx => ⟨.implied, (.push 1), 3, .none, false⟩
  | .rsvDB => ⟨.reserved, .none, Config.rsvCycles 0xDB, .none, false⟩
  | .rsvDC _ _ => ⟨.reserved, .none, Config.rsvCycles 0xDC, .none, false⟩
  | .cmpAbsX _ => ⟨.absX, .read, 4, .page, false⟩
  | .decAbsX _ => ⟨.absX, .modify, 7, .none, false⟩
  | .bbs5 _ _ => ⟨.zpRel, .read, 5, .branch, false⟩
  | .cpxImm _ => ⟨.imm, .none, 2, .none, false⟩
  | .sbcIndX _ => ⟨.indX, .read, 6, .decimal, true⟩
  | .rsvE2 _ => ⟨.reserved, .none, Config.rsvCycles 0xE2, .none, false⟩
  | .rsvE3 => ⟨.reserved, .none, Config.rsvCycles 0xE3, .none, false⟩
  | .cpxZp _ => ⟨.zp, .read, 3, .none, false⟩
  | .sbcZp _ => ⟨.zp, .read, 3, .decimal, true⟩
  | .incZp _ => ⟨.zp, .modify, 5, .none, false⟩
  | .smb6 _ => ⟨.zp, .modifyBit, 5, .none, false⟩
  | .inx => ⟨.implied, .none, 2, .none, false⟩
  | .sbcImm _ => ⟨.imm, .none, 2, .decimal, true⟩
  | .nop => ⟨.implied, .none, 2, .none, false⟩
  | .rsvEB => ⟨.reserved, .none, Config.rsvCycles 0xEB, .none, false⟩
  | .cpxAbs _ => ⟨.abs, .read, 4, .none, false⟩
  | .sbcAbs _ => ⟨.abs, .read, 4, .decimal, true⟩
  | .incAbs _ => ⟨.abs, .modify, 6, .none, false⟩
  | .bbs6 _ _ => ⟨.zpRel, .read, 5, .branch, false⟩
  | .beq _ => ⟨.relative, .none, 2, .branch, false⟩
  | .sbcIndY _ => ⟨.indY, .read, 5, .pageDecimal, true⟩
  | .sbcInd _ => ⟨.ind, .read, 5, .decimal, true⟩
  | .rsvF3 => ⟨.reserved, .none, Config.rsvCycles 0xF3, .none, false⟩
  | .rsvF4 _ => ⟨.reserved, .none, Config.rsvCycles 0xF4, .none, false⟩
  | .sbcZpX _ => ⟨.zpX, .read, 4, .decimal, true⟩
  | .incZpX _ => ⟨.zpX, .modify, 6, .none, false⟩
  | .smb7 _ => ⟨.zp, .modifyBit, 5, .none, false⟩
  | .sed => ⟨.implied, .none, 2, .none, false⟩
  | .sbcAbsY _ => ⟨.absY, .read, 4, .pageDecimal, true⟩
  | .plx => ⟨.implied, (.pull 1), 4, .none, false⟩
  | .rsvFB => ⟨.reserved, .none, Config.rsvCycles 0xFB, .none, false⟩
  | .rsvFC _ _ => ⟨.reserved, .none, Config.rsvCycles 0xFC, .none, false⟩
  | .sbcAbsX _ => ⟨.absX, .read, 4, .pageDecimal, true⟩
  | .incAbsX _ => ⟨.absX, .modify, 7, .none, false⟩
  | .bbs7 _ _ => ⟨.zpRel, .read, 5, .branch, false⟩

/-- The operand byte `b1` (R102). -/
def operand1 (i : Instr) : Byte := (operandBytes i).getD 0 0

/-- The operand `b2 : b1` of format F3 (R103). -/
def operandWord (i : Instr) : Word := wordOf (operand1 i) ((operandBytes i).getD 1 0)

/-- Two addresses lie in different pages (R7). -/
def crosses (w w' : Word) : Bool := highByte w != highByte w'

/-- The index of "ABS, X", "ABS, Y" or "(IND), Y" carries into the high byte of the address (R74, R111, R117). -/
def indexCrosses (i : Instr) (s : State) : Bool :=
  match (info i).mode with
  | .absX => crosses (operandWord i) (eaAbsX (operandWord i) s)
  | .absY => crosses (operandWord i) (eaAbsY (operandWord i) s)
  | .indY => crosses (s.readWordZP (operand1 i)) (eaIndY (operand1 i) s)
  | _ => false

/-- Whether an instruction that is a branch branches (R220, R230, R231); every other instruction does not. -/
def taken : Instr → State → Bool
  | .bpl _, s => resultPlus s
  | .bmi _, s => resultMinus s
  | .bvc _, s => overflowClear s
  | .bvs _, s => overflowSet s
  | .bra _, s => always s
  | .bcc _, s => carryClear s
  | .bcs _, s => carrySet s
  | .bne _, s => resultNotZero s
  | .beq _, s => resultZero s
  | .bbr0 zp _, s => bitIs 0 false zp s
  | .bbr1 zp _, s => bitIs 1 false zp s
  | .bbr2 zp _, s => bitIs 2 false zp s
  | .bbr3 zp _, s => bitIs 3 false zp s
  | .bbr4 zp _, s => bitIs 4 false zp s
  | .bbr5 zp _, s => bitIs 5 false zp s
  | .bbr6 zp _, s => bitIs 6 false zp s
  | .bbr7 zp _, s => bitIs 7 false zp s
  | .bbs0 zp _, s => bitIs 0 true zp s
  | .bbs1 zp _, s => bitIs 1 true zp s
  | .bbs2 zp _, s => bitIs 2 true zp s
  | .bbs3 zp _, s => bitIs 3 true zp s
  | .bbs4 zp _, s => bitIs 4 true zp s
  | .bbs5 zp _, s => bitIs 5 true zp s
  | .bbs6 zp _, s => bitIs 6 true zp s
  | .bbs7 zp _, s => bitIs 7 true zp s
  | _, _ => false

/-- The next instruction in sequence and the target of a branch lie in different pages (R220, R230). -/
def branchCrosses (i : Instr) (s : State) : Bool :=
  let len := (encode i).length
  crosses (s.pc + BitVec.ofNat 16 len) (relTarget len ((operandBytes i).getD (len - 2) 0) s)

/-- The cycles a footnote adds (R360). -/
def extraCycles (i : Instr) (s : State) : Nat :=
  match (info i).footnote with
  | .none => 0
  | .page => (indexCrosses i s).toNat
  | .decimal => s.p.d.toNat
  | .pageDecimal => (indexCrosses i s).toNat + s.p.d.toNat
  | .branch => if taken i s then 1 + (branchCrosses i s).toNat else 0
  | .branchPage => (branchCrosses i s).toNat
  | .pointerPage => (operand1 i == 0xFF).toNat

/-- The machine cycles of an instruction started in a state (R360). -/
def cyclesOf (i : Instr) (s : State) : Nat := (info i).cycles + extraCycles i s

end Sys2Proof.Machine
end

