-- ==== Sys2Proof/Machine/Bus.lean ====
section
/-! DEFINITION. The bus accesses of an instruction, in order, with their labels R/W, SYNC and ML (R61, R70, R72, R73,
R74, R76, R316, R318). The writes are those the meaning made (`State.writeAt`); the reads are listed here. If
`DummyReads` is on, so are the discarded reads: the two kinds whose address the source gives (R72, R74), and, at free
addresses, one for each cycle beyond the accesses listed (R6, R61, R76, D8, log 19). -/

namespace Sys2Proof.Machine

/-- The fetch of an instruction: ascending addresses, SYNC on the op code (R102, R316); of an unassigned op code,
`RsvLen` bytes (R125, R270). -/
def fetchAccesses (i : Instr) (s : State) : List BusAccess :=
  (List.range (encode i).length).map fun k =>
    { s.readAccess (fetchPlace + k) (s.pc + BitVec.ofNat 16 k) with sync := k == 0 }

/-- The pointer reads of an operand form (R113, R116 to R119). -/
def pointerAccesses (i : Instr) (s : State) : List BusAccess :=
  let zpPointer (z : Byte) :=
    [s.readAccess pointerPlace (zeroPage z), s.readAccess (pointerPlace + 1) (zeroPage (z + 1))]
  match (info i).mode with
  | .indX => zpPointer (operand1 i + s.x)
  | .indY => zpPointer (operand1 i)
  | .ind => zpPointer (operand1 i)
  | .absInd => s.readWordAccesses pointerPlace (operandWord i)
  | .absIndX => s.readWordAccesses pointerPlace (eaAbsX (operandWord i) s)
  | _ => []

/-- The re-read of the last instruction byte when an index crosses a page (R74), if discarded reads are recorded. The
indexed stores and read-modify-writes, whose count is fixed, spend that cycle without a crossing too; R74 does not say
what it reads then, so that it is one of the reads of R76, at a free address: DESIGN CHOICE (log 19). -/
def crossingAccesses (dummyReads : Bool) (i : Instr) (s : State) : List BusAccess :=
  if indexCrosses i s && dummyReads then
    [s.readAccess crossingPlace (s.pc + BitVec.ofNat 16 ((encode i).length - 1))]
  else []

/-- The effective address of the datum, for the forms that have one (R107 to R119). -/
def dataAddr (i : Instr) (s : State) : Option Word :=
  match (info i).mode with
  | .zp => some (eaZp (operand1 i))
  | .zpRel => some (eaZp (operand1 i))
  | .zpX => some (eaZpX (operand1 i) s)
  | .zpY => some (eaZpY (operand1 i) s)
  | .abs => some (operandWord i)
  | .absX => some (eaAbsX (operandWord i) s)
  | .absY => some (eaAbsY (operandWord i) s)
  | .indX => some (eaIndX (operand1 i) s)
  | .indY => some (eaIndY (operand1 i) s)
  | .ind => some (eaInd (operand1 i) s)
  | _ => none

/-- The two reads of a read-modify-write, `ml` marking the second, which is discarded (R72, R73). -/
def modifyReads (dummyReads ml : Bool) (s : State) (addr : Word) : List BusAccess :=
  s.readAccess dataPlace addr :: if dummyReads then [{ s.readAccess modifyPlace addr with ml := ml }] else []

/-- The reads of `n` pulls (R26). -/
def pullAccesses (n : Nat) (s : State) : List BusAccess :=
  (List.range n).map fun k => s.readAccess (dataPlace + k) (stackAddr (s.sp + BitVec.ofNat 8 (k + 1)))

/-- The reads that carry an instruction's data. -/
def dataReads (dummyReads : Bool) (i : Instr) (s : State) : List BusAccess :=
  match (info i).data with
  | .none => []
  | .read => (dataAddr i s).toList.map (s.readAccess dataPlace)
  | .write => []
  | .modify => (dataAddr i s).toList.flatMap (modifyReads dummyReads true s)
  | .modifyBit => (dataAddr i s).toList.flatMap (modifyReads dummyReads Config.mlDuringBitOps s)
  | .push _ => []
  | .pull n => pullAccesses n s
  | .breakEntry => []

/-- The reads of the vector that end BRK, `t` being the state after it (R268, R305). -/
def vectorAccesses (i : Instr) (t : State) : List BusAccess :=
  match (info i).data with
  | .breakEntry => t.readWordAccesses vectorPlace irqVector
  | _ => []

/-- The accesses of an instruction whose addresses the rules give. It took `s`, in which no write was recorded yet, to
`t` (R70 (a)): its reads, the writes it made, and the vector's reads. -/
def listedAccesses (dummyReads : Bool) (i : Instr) (s t : State) : List BusAccess :=
  fetchAccesses i s ++ pointerAccesses i s ++ crossingAccesses dummyReads i s ++ dataReads dummyReads i s ++ t.bus ++
    vectorAccesses i t

/-- The last moment of an instruction at which a read of R76 can be made: a read-modify-write accesses its effective
address three times in a row (R72), and ends with them (log 19). -/
def lastMoment (i : Instr) : Nat :=
  match (info i).data with
  | .modify => 2 * dataPlace
  | .modifyBit => 2 * dataPlace
  | _ => 2 * endPlace

/-- The address at which no read of R76 is made: the effective address of a store. R76 and U15 leave the addresses of
those reads open; R144 to R147 and G17 say, as general knowledge, that a store makes "exactly one write to `ea` and no
read of `ea`". That the model follows the latter is a DESIGN CHOICE (log 19). -/
def unreadAddr (i : Instr) (s : State) : Option Word :=
  match (info i).data with
  | .write => dataAddr i s
  | _ => none

/-- The bus accesses of an instruction: those listed and, after its op code, the reads of R76, one for each further cycle
(R61). -/
def recordedAccesses (dummyReads : Bool) (i : Instr) (s t : State) : List BusAccess :=
  s.fillCycles dummyReads (unreadAddr i s) 1 (lastMoment i) (cyclesOf i s) (listedAccesses dummyReads i s t)

/-- The bus accesses of an instruction, with the discarded reads if `DummyReads` is on (R6). -/
def busAccesses (i : Instr) (s t : State) : List BusAccess := recordedAccesses Config.dummyReads i s t

/-- The level of the ML output during an access, `true` for high; a device without the pin has none (R73, R318). -/
def mlOutput (access : BusAccess) : Option Bool :=
  if Config.device.hasMemoryLock then some (!access.ml) else none

end Sys2Proof.Machine
end

