-- ==== Sys2Proof/Machine/Environment.lean ====
section
/-! DEFINITION. What the pins do at an instruction boundary, what the CPU does there, and what an edge within an
instruction does (R10, R42, R300 to R319, R350 to R352, R357). -/

namespace Sys2Proof.Machine

/-- The levels of the pins after an event. -/
def Pins.set (pins : Pins) : PinEvent → Pins
  | .irq high => { pins with irq := high }
  | .nmi high => { pins with nmi := high }
  | .so high => { pins with so := high }
  | .rdy high => { pins with rdy := high }
  | .be high => { pins with be := high }
  | .res high => { pins with res := high }
  | .clock c => { pins with clock := c }
  | .busWrite _ _ => pins

/-- The clock has stood low too long (R43, R357, U9). Every register, flag and hidden item is unspecified: the registers,
the flags, the instruction register, the cycle count within an instruction and a remembered NMI edge take free values,
and what was known of a RES pulse is gone, so that only a pulse that is low for a step from then on resets. That the
pulse is forgotten and not free is a DESIGN CHOICE (log 15). Memory is outside the CPU and stays: the loss stands at a
boundary, so that every store of the step before it is made and none of the next. R357 does not say how much of a step
is done whose clock stops in its midst: DESIGN CHOICE (log 15). -/
def State.lose (s : State) : State :=
  let r := Config.lost s.draws
  { s with
    a := r.a, x := r.x, y := r.y, sp := r.sp, pc := r.pc, p := Flags.ofByte r.p
    ir := r.ir, tcu := r.tcu, nmiPending := r.nmiPending
    resPending := false, resHeld := false, irqShadow := false, stateLost := true }

/-- One pin event. NMI: a negative edge is remembered (R42 (a), R303). SO: a negative edge sets V (R315), at once even
while RDY is low, RES is low or the clock is stopped, where R314 and R319 say that nothing changes: DESIGN CHOICE
(log 29). RES: a low level ends all activity and any pending reset, a positive edge after at least one step of low
requests the reset sequence, and a shorter pulse has no specified effect (R350, log 14). BE: a device without the pin
has no such event (R317, log 13). Clock: held low too long, the CPU loses its state (R43, R357, log 15). -/
def State.onPin (s : State) (e : PinEvent) : Except Refusal State :=
  let t := { s with pins := s.pins.set e }
  match e with
  | .irq _ => .ok t
  | .nmi high => .ok { t with nmiPending := s.nmiPending || s.pins.nmi && !high }
  | .so high => .ok { t with p := { s.p with v := s.p.v || s.pins.so && !high } }
  | .rdy _ => .ok t
  | .be _ => .ok (if Config.device.hasBusEnable then t else s)
  | .res high =>
    if s.pins.res == high then .ok s
    else if !high then .ok { t with resHeld := false, resPending := false }
    else if s.resHeld then .ok { t with resHeld := false, resPending := true }
    else .error .resetPulseTooShort
  | .clock c => .ok (if c = .heldLow then t.lose else t)
  | .busWrite addr v => .ok (s.write addr v)

/-- The pin events of a boundary, in order. -/
def State.onPins (s : State) : List PinEvent → Except Refusal State
  | [] => .ok s
  | e :: rest =>
    match s.onPin e with
    | .ok t => t.onPins rest
    | .error r => .error r

/-- The coming boundary of the schedule; a schedule that has run out has quiet ones. -/
def State.boundary (s : State) : Boundary := s.schedule.headD Boundary.quiet

/-- The state in which a step begins: the coming boundary is taken off the schedule, what other bus masters will write
within the step is known, no access is recorded, and the free values are fresh. -/
def State.begin (s : State) : State :=
  { s with schedule := s.schedule.tail, dma := s.boundary.writesWithin, bus := [], draws := s.draws + 1 }

/-- The state with the coming boundary's events done (R10). -/
def State.atBoundary (s : State) : Except Refusal State := s.begin.onPins s.boundary.events

/-- What the CPU does at a boundary. -/
inductive Activity where
  /-- RES is low: nothing (R350). -/
  | held
  /-- RDY is low or the clock is stopped: nothing (R314, R319). -/
  | suspended
  /-- Outside the supported environment. -/
  | refuse (r : Refusal)
  /-- The reset sequence (R351). -/
  | reset
  /-- The NMI entry (R303). -/
  | nmi
  /-- The IRQ entry (R302). -/
  | irq
  /-- Fetch and perform an instruction (R102). -/
  | execute
deriving DecidableEq, Repr

/-- An IRQ is taken at this boundary if nothing goes before it: the line is low, I is 0, and the environment does not
defer an IRQ that a CLI or PLP has just unmasked (R302, R304 (c) and (d), D24). -/
def State.irqRecognized (s : State) (b : Boundary) : Bool :=
  !s.pins.irq && !s.p.i && !(s.irqShadow && b.deferIrq)

/-- What the CPU does at a boundary: reset before any interrupt, an interrupt before the next instruction (R10, R309),
nothing at all while RES is low, the clock is stopped or RDY is low (R314, R319, R350, log 12). Between an NMI and an
IRQ the order is free (D6, log 7). -/
def State.activity (s : State) (b : Boundary) : Activity :=
  if !s.pins.res then .held
  else if s.pins.clock != .running || !s.pins.rdy then .suspended
  else if !s.pins.be then .refuse .busDisabled
  else if s.resPending then .reset
  else if s.stateLost then .refuse .stateLost
  else if s.nmiPending && s.irqRecognized b then (if Config.nmiBeforeIrq then .nmi else .irq)
  else if s.nmiPending then .nmi
  else if s.irqRecognized b then .irq
  else .execute

/-- The state once the last access of the step is made: what other bus masters still write is written (R77). -/
def State.finish (s : State) : State := s.upTo endPlace

/-- A step while RES is low (R350): at least two cycles pass, if the clock runs (log 14). -/
def State.holdReset (s : State) : State :=
  { s.finish with resHeld := s.resHeld || s.pins.clock == .running }

/-- A step while RDY is low or the clock is stopped: no register, flag or byte of memory is changed by the CPU (R314,
R319). -/
def State.suspend (s : State) : State := s.finish

/-- The entry of a hardware interrupt: `Interrupt(vector, 0)` with the return address `pc` (R302, R303, R305), in seven
cycles (R325): three pushes, then the vector, and two cycles the source does not describe (R61, R76). -/
def State.takeInterrupt (s : State) (vector : Word) : State :=
  let t := s.enterInterrupt vector false s.pc
  { t with
    irqShadow := false, tcu := 7, cycles := s.cycles + 7
    bus := s.fillCycles Config.dummyReads none 0 (2 * endPlace) 7 (t.bus ++ t.readWordAccesses vectorPlace vector) }

/-- The IRQ entry; the request is a level and is not latched (R302). -/
def State.takeIrq (s : State) : State := s.takeInterrupt irqVector

/-- The NMI entry; the remembered edge is cleared (R303). -/
def State.takeNmi (s : State) : State := ({ s with nmiPending := false }).takeInterrupt nmiVector

/-- The instruction at `pc` (R27, R102). The bytes after it, which are not fetched, do not matter to what is decoded. -/
def State.fetch (s : State) : Instr :=
  decodeOp (s.readAt fetchPlace s.pc) (s.readAt (fetchPlace + 1) (s.pc + 1)) (s.readAt (fetchPlace + 2) (s.pc + 2))

/-- CLI and PLP, the instructions after which R304 (d) allows a deferral. -/
def unmasks : Instr → Bool
  | .cli => true
  | .plp => true
  | _ => false

/-- What the step records of an instruction `i` that took `s` to `t`: the op code and the cycle count (R41, R360), the
bus accesses (R61), and whether a CLI or PLP cleared I (R304 (d)). -/
def State.record (i : Instr) (s t : State) : State :=
  { t with
    ir := opcode i
    tcu := cyclesOf i s
    cycles := s.cycles + cyclesOf i s
    bus := busAccesses i s t
    irqShadow := unmasks i && s.p.i && !t.p.i }

/-- SO falls within the activity that led to `t`: V is set, but free if the activity writes V itself (R315, log 10). A
pin that is low already has no negative edge. -/
def State.soFalls (writesV : Bool) (t : State) : State :=
  if !t.pins.so then t
  else { t with
    pins := { t.pins with so := false }
    p := { t.p with v := if writesV then Config.collisionV t.draws else true } }

/-- An access of a step cut short by RES: what it writes is a free value (R350, log 11). -/
def BusAccess.cut (draw : Nat) (access : BusAccess) : BusAccess :=
  if access.write then { access with value := Config.cutByte draw access.addr } else access

/-- Memory with a free value stored at each address a list of accesses writes. -/
def Memory.scramble (platform : List Region) (m : Memory) (draw : Nat) : List BusAccess → Memory
  | [] => m
  | access :: rest =>
    let m' := Memory.scramble platform m draw rest
    if access.write then Memory.store platform m' access.addr (Config.cutByte draw access.addr) else m'

/-- RES falls within the activity that led from `s` to `t` (R350, U10, log 11). What it was storing is free, all other
memory is as without it; every register and flag is free; how many of its cycles it still took is free. Each of them made
an access (R61), so that with discarded reads recorded the record has as many; without them it has as many of those
listed at most. -/
def State.resFalls (s t : State) : State :=
  let r := Config.cut t.draws
  let n := Config.cutCycles t.draws % (t.tcu + 1)
  let made := if Config.dummyReads then n else min n (Config.cutAccesses t.draws)
  { t with
    a := r.a, x := r.x, y := r.y, sp := r.sp, pc := r.pc, p := Flags.ofByte r.p
    ir := r.ir, tcu := n, cycles := s.cycles + n, nmiPending := r.nmiPending
    mem := Memory.scramble s.platform s.finish.mem t.draws t.bus
    bus := (t.bus.take made).map (BusAccess.cut t.draws)
    pins := { t.pins with res := false }
    resHeld := false, resPending := false, irqShadow := false }

/-- The edges that fall within an instruction, an interrupt entry or a reset sequence that led from `s` to `t`
(R315, R350), and the end of the step. -/
def State.within (b : Boundary) (writesV : Bool) (s t : State) : State :=
  let t := if b.soWithin then t.finish.soFalls writesV else t.finish
  if b.resWithin then State.resFalls s t else t

/-- What the step does once the instruction `i` has led from `s` to `t`. -/
def State.complete (b : Boundary) (i : Instr) (s t : State) : State :=
  State.within b (info i).writesV s (State.record i s t)

end Sys2Proof.Machine
end

