-- ==== Sys2Proof/Machine/Step.lean ====
section
/-! DEFINITION. One step of the machine (R10). -/

namespace Sys2Proof.Machine

/-- What the CPU does once the boundary's pin events are done. -/
def State.proceed (s : State) (b : Boundary) : Host.Outcome State Fault Refusal :=
  match s.activity b with
  | .held => .next s.holdReset
  | .suspended => .next s.suspend
  | .refuse r => .refused r
  | .reset => .next (State.within b true s s.resetSequence)
  | .nmi => .next (State.within b false s s.takeNmi)
  | .irq => .next (State.within b false s s.takeIrq)
  | .execute =>
    match exec s.fetch s with
    | .next t => .next (State.complete b s.fetch s t)
    | .fault f => .fault f
    | .refused r => .refused r

/-- One step: the environment's events at the boundary, then reset, an interrupt entry, or one instruction (R10). -/
def step (s : State) : Host.Outcome State Fault Refusal :=
  match s.atBoundary with
  | .error r => .refused r
  | .ok t => t.proceed s.boundary

/-- The instruction whose bits are `w`, as the op-code table numbers them, stored at `pc` in a memory that is all RAM,
and nothing pending that would keep the next step from fetching it (log 23). -/
def State.withFetchWord (s : State) (nbits w : Nat) : State :=
  let bytes := tableBytes nbits w
  let t := { s with platform := [] }
  let t := ((t.write s.pc (bytes.getD 0 0)).write (s.pc + 1) (bytes.getD 1 0)).write (s.pc + 2) (bytes.getD 2 0)
  { t with schedule := [], pins := Pins.inactive, nmiPending := false, resPending := false, stateLost := false }

end Sys2Proof.Machine
end

