-- ==== Sys2Proof/Safety.lean ====
section
/-! DEFINITION. What claims about runs speak of: the invariant every step keeps, and a machine left alone by its
environment. -/

namespace Sys2Proof.Machine

/-- Memory is in canonical form; RES is low while its pulse is being measured and high while a reset is pending (R350);
the mark of R304 (d) stands only while I is 0; unless the CPU's state is lost, no step has taken more cycles than have
passed (R360); between steps no other bus master is in the middle of one (R77). -/
structure State.Inv (s : State) : Prop where
  mem_wf : Memory.wf s.mem
  held_low : s.resHeld = true → s.pins.res = false
  pending_high : s.resPending = true → s.pins.res = true
  shadow_unmasked : s.irqShadow = true → s.p.i = false
  tcu_le_cycles : s.stateLost = false → s.tcu ≤ s.cycles
  dma_done : s.dma = []

/-- The environment does nothing and nothing is pending: the default environment of program proofs (D7). -/
structure State.Quiet (s : State) : Prop where
  schedule_nil : s.schedule = []
  pins_inactive : s.pins = Pins.inactive
  no_nmi : s.nmiPending = false
  no_reset : s.resPending = false
  state_kept : s.stateLost = false

/-- The bus writes of a list of accesses, in order. -/
def busWrites (accesses : List BusAccess) : List BusAccess := accesses.filter fun access => access.write

/-- Memory after the bus writes of a list of accesses, in order. -/
def Memory.applyWrites (platform : List Region) (m : Memory) : List BusAccess → Memory
  | [] => m
  | access :: rest =>
    Memory.applyWrites platform (if access.write then Memory.store platform m access.addr access.value else m) rest

/-- The bytes stored from an address on, ascending and wrapping (R100). -/
def State.writeBytes (s : State) (addr : Word) : List Byte → State
  | [] => s
  | v :: rest => (s.write addr v).writeBytes (addr + 1) rest

end Sys2Proof.Machine
end

