-- ==== Sys2Proof/Certificates/Slice0/Obligations.lean ====
section
/-! DEFINITION. The statements for the provers. First the vocabulary they share: the forms of each instruction with the
operand value or the effective address of each, computed by the same operations as the meanings, and what "one byte
stored and nothing else" means. -/

namespace Sys2Proof.Claims

open Sys2Proof.Machine

/-! Values and addresses -/

/-- `(pc + len) mod 0x10000` (R28). -/
def pcAfter (s : State) (len : Nat) : Word := BitVec.ofNat 16 (s.pc.toNat + len)

/-- `SetNZ(v)` (R9). -/
def nz (p : Flags) (v : Byte) : Flags := { p with n := v.getLsbD 7, z := decide (v = 0) }

/-- `SetP(v)` (R40). -/
def flagsOf (v : Byte) : Flags :=
  { n := v.getLsbD 7, v := v.getLsbD 6, d := v.getLsbD 3, i := v.getLsbD 2, z := v.getLsbD 1, c := v.getLsbD 0 }

/-- Both nibbles are 0 to 9 (R162). -/
def isBcd (v : Byte) : Prop := v.toNat / 16 ≤ 9 ∧ v.toNat % 16 ≤ 9

/-- `val(v)` (R162). -/
def bcdValue (v : Byte) : Nat := 10 * (v.toNat / 16) + v.toNat % 16

/-- The target of a branch of `len` bytes: the address of the next instruction plus the signed offset (R114, R115). -/
def branchTarget (s : State) (len : Nat) (rel : Byte) : Word := BitVec.ofInt 16 (s.pc.toNat + len + rel.toInt)

/-! What happens to memory -/

/-- Every byte of memory is as before. -/
def SameMemory (s t : State) : Prop := ∀ addr : Word, t.read addr = s.read addr

/-- A write on the bus at a place of the step, without the label ML (R61). -/
def writeAccess (place : Nat) (addr : Word) (v : Byte) : BusAccess :=
  { place := place, addr := addr, value := v, write := true, sync := false, ml := false }

/-- A read on the bus at a place of the step, without a label (R61). -/
def readAccess (place : Nat) (addr : Word) (v : Byte) : BusAccess :=
  { place := place, addr := addr, value := v, write := false, sync := false, ml := false }

/-- `t` is `s` with the byte `v` presented for storing at `ea` at a place of the step, the flags `p`, and `pc` past an
instruction of `len` bytes. Where `ea` is RAM the byte is there. Every other register is as before, and every other byte
of memory is as the other bus masters leave it; with none at work, as before (`OtherMasters`). -/
def Stored (s t : State) (place : Nat) (ml : Bool) (ea : Word) (v : Byte) (p : Flags) (len : Nat) : Prop :=
  t = { s with
    mem := t.mem
    dma := (s.upTo place).dma
    bus := s.bus ++ [{ writeAccess place ea v with ml := ml }]
    p := p
    pc := pcAfter s len } ∧
  ∀ addr : Word, t.read addr = if addr = ea ∧ kindAt s.platform addr = .ram then v else (s.upTo place).read addr

/-- The three writes of the entry that pushes `ret` and the status image with bit 4 equal to `b` (R305). -/
def entryWrites (s : State) (b : Bool) (ret : Word) : List BusAccess :=
  [writeAccess dataPlace (stackAddr s.sp) (highByte ret), writeAccess (dataPlace + 1) (stackAddr (s.sp - 1)) (lowByte ret),
   writeAccess (dataPlace + 2) (stackAddr (s.sp - 2)) (s.p.image b)]

/-- `t` is `s` after that entry, as far as memory goes: three bytes of page one, where RAM is, and no other (R62,
R305). -/
def EntryBytes (s t : State) (b : Bool) (ret : Word) : Prop :=
  ∀ addr : Word, t.read addr =
    if kindAt s.platform addr ≠ .ram then s.read addr
    else if addr = stackAddr s.sp then highByte ret
    else if addr = stackAddr (s.sp - 1) then lowByte ret
    else if addr = stackAddr (s.sp - 2) then s.p.image b
    else s.read addr

/-! The forms of the instructions -/

/-- A form that reads an operand: the instruction, the operand's value, the length in bytes. -/
structure ReadForm where
  instr : Instr
  operand : Byte
  length : Nat

/-- A form that stores: the instruction, the effective address, the length in bytes. -/
structure StoreForm where
  instr : Instr
  ea : Word
  length : Nat

/-- The nine forms that ADC, AND, CMP, EOR, LDA, ORA and SBC share. -/
def nineForms (imm zp zpX indX indY ind : Byte → Instr) (abs absX absY : Word → Instr) (s : State) (b : Byte) (w : Word) :
    List ReadForm :=
  [⟨imm b, b, 2⟩, ⟨zp b, s.datum (eaZp b), 2⟩, ⟨zpX b, s.datum (eaZpX b s), 2⟩, ⟨indX b, s.datum (eaIndX b s), 2⟩,
   ⟨indY b, s.datum (eaIndY b s), 2⟩, ⟨ind b, s.datum (eaInd b s), 2⟩, ⟨abs w, s.datum w, 3⟩,
   ⟨absX w, s.datum (eaAbsX w s), 3⟩, ⟨absY w, s.datum (eaAbsY w s), 3⟩]

def adcForms := nineForms .adcImm .adcZp .adcZpX .adcIndX .adcIndY .adcInd .adcAbs .adcAbsX .adcAbsY
def andForms := nineForms .andImm .andZp .andZpX .andIndX .andIndY .andInd .andAbs .andAbsX .andAbsY
def cmpForms := nineForms .cmpImm .cmpZp .cmpZpX .cmpIndX .cmpIndY .cmpInd .cmpAbs .cmpAbsX .cmpAbsY
def eorForms := nineForms .eorImm .eorZp .eorZpX .eorIndX .eorIndY .eorInd .eorAbs .eorAbsX .eorAbsY
def ldaForms := nineForms .ldaImm .ldaZp .ldaZpX .ldaIndX .ldaIndY .ldaInd .ldaAbs .ldaAbsX .ldaAbsY
def oraForms := nineForms .oraImm .oraZp .oraZpX .oraIndX .oraIndY .oraInd .oraAbs .oraAbsX .oraAbsY
def sbcForms := nineForms .sbcImm .sbcZp .sbcZpX .sbcIndX .sbcIndY .sbcInd .sbcAbs .sbcAbsX .sbcAbsY

def ldxForms (s : State) (b : Byte) (w : Word) : List ReadForm :=
  [⟨.ldxImm b, b, 2⟩, ⟨.ldxZp b, s.datum (eaZp b), 2⟩, ⟨.ldxZpY b, s.datum (eaZpY b s), 2⟩, ⟨.ldxAbs w, s.datum w, 3⟩,
   ⟨.ldxAbsY w, s.datum (eaAbsY w s), 3⟩]

def ldyForms (s : State) (b : Byte) (w : Word) : List ReadForm :=
  [⟨.ldyImm b, b, 2⟩, ⟨.ldyZp b, s.datum (eaZp b), 2⟩, ⟨.ldyZpX b, s.datum (eaZpX b s), 2⟩, ⟨.ldyAbs w, s.datum w, 3⟩,
   ⟨.ldyAbsX w, s.datum (eaAbsX w s), 3⟩]

def cpxForms (s : State) (b : Byte) (w : Word) : List ReadForm :=
  [⟨.cpxImm b, b, 2⟩, ⟨.cpxZp b, s.datum (eaZp b), 2⟩, ⟨.cpxAbs w, s.datum w, 3⟩]

def cpyForms (s : State) (b : Byte) (w : Word) : List ReadForm :=
  [⟨.cpyImm b, b, 2⟩, ⟨.cpyZp b, s.datum (eaZp b), 2⟩, ⟨.cpyAbs w, s.datum w, 3⟩]

/-- BIT in its memory forms. -/
def bitForms (s : State) (b : Byte) (w : Word) : List ReadForm :=
  [⟨.bitZp b, s.datum (eaZp b), 2⟩, ⟨.bitZpX b, s.datum (eaZpX b s), 2⟩, ⟨.bitAbs w, s.datum w, 3⟩,
   ⟨.bitAbsX w, s.datum (eaAbsX w s), 3⟩]

def staForms (s : State) (b : Byte) (w : Word) : List StoreForm :=
  [⟨.staZp b, eaZp b, 2⟩, ⟨.staZpX b, eaZpX b s, 2⟩, ⟨.staIndX b, eaIndX b s, 2⟩, ⟨.staIndY b, eaIndY b s, 2⟩,
   ⟨.staInd b, eaInd b s, 2⟩, ⟨.staAbs w, w, 3⟩, ⟨.staAbsX w, eaAbsX w s, 3⟩, ⟨.staAbsY w, eaAbsY w s, 3⟩]

def stxForms (s : State) (b : Byte) (w : Word) : List StoreForm :=
  [⟨.stxZp b, eaZp b, 2⟩, ⟨.stxZpY b, eaZpY b s, 2⟩, ⟨.stxAbs w, w, 3⟩]

def styForms (s : State) (b : Byte) (w : Word) : List StoreForm :=
  [⟨.styZp b, eaZp b, 2⟩, ⟨.styZpX b, eaZpX b s, 2⟩, ⟨.styAbs w, w, 3⟩]

/-- The four memory forms that STZ, INC, DEC and the shifts and rotates share. -/
def fourForms (zp zpX : Byte → Instr) (abs absX : Word → Instr) (s : State) (b : Byte) (w : Word) : List StoreForm :=
  [⟨zp b, eaZp b, 2⟩, ⟨zpX b, eaZpX b s, 2⟩, ⟨abs w, w, 3⟩, ⟨absX w, eaAbsX w s, 3⟩]

def stzForms := fourForms .stzZp .stzZpX .stzAbs .stzAbsX
def incForms := fourForms .incZp .incZpX .incAbs .incAbsX
def decForms := fourForms .decZp .decZpX .decAbs .decAbsX
def aslForms := fourForms .aslZp .aslZpX .aslAbs .aslAbsX
def lsrForms := fourForms .lsrZp .lsrZpX .lsrAbs .lsrAbsX
def rolForms := fourForms .rolZp .rolZpX .rolAbs .rolAbsX
def rorForms := fourForms .rorZp .rorZpX .rorAbs .rorAbsX

def trbForms (b : Byte) (w : Word) : List StoreForm := [⟨.trbZp b, eaZp b, 2⟩, ⟨.trbAbs w, w, 3⟩]
def tsbForms (b : Byte) (w : Word) : List StoreForm := [⟨.tsbZp b, eaZp b, 2⟩, ⟨.tsbAbs w, w, 3⟩]

/-- The memory forms whose modify and write cycles assert ML (R73). -/
def lockedForms (s : State) (b : Byte) (w : Word) : List StoreForm :=
  aslForms s b w ++ decForms s b w ++ incForms s b w ++ lsrForms s b w ++ rolForms s b w ++ rorForms s b w ++
    trbForms b w ++ tsbForms b w

/-- RMBn (R200). -/
def rmb (n : Fin 8) : Byte → Instr :=
  match n with
  | 0 => .rmb0 | 1 => .rmb1 | 2 => .rmb2 | 3 => .rmb3 | 4 => .rmb4 | 5 => .rmb5 | 6 => .rmb6 | 7 => .rmb7

/-- SMBn (R201). -/
def smb (n : Fin 8) : Byte → Instr :=
  match n with
  | 0 => .smb0 | 1 => .smb1 | 2 => .smb2 | 3 => .smb3 | 4 => .smb4 | 5 => .smb5 | 6 => .smb6 | 7 => .smb7

/-- BBRn (R230). -/
def bbr (n : Fin 8) : Byte → Byte → Instr :=
  match n with
  | 0 => .bbr0 | 1 => .bbr1 | 2 => .bbr2 | 3 => .bbr3 | 4 => .bbr4 | 5 => .bbr5 | 6 => .bbr6 | 7 => .bbr7

/-- BBSn (R231). -/
def bbs (n : Fin 8) : Byte → Byte → Instr :=
  match n with
  | 0 => .bbs0 | 1 => .bbs1 | 2 => .bbs2 | 3 => .bbs3 | 4 => .bbs4 | 5 => .bbs5 | 6 => .bbs6 | 7 => .bbs7

/-- A branch on a flag: the instruction with its offset, and its condition (R221 to R229). -/
structure BranchForm where
  instr : Byte → Instr
  cond : Bool

/-- The eight conditional branches (R221 to R226, R228, R229). -/
def flagBranches (s : State) : List BranchForm :=
  [⟨.bcc, !s.p.c⟩, ⟨.bcs, s.p.c⟩, ⟨.beq, s.p.z⟩, ⟨.bmi, s.p.n⟩, ⟨.bne, !s.p.z⟩, ⟨.bpl, !s.p.n⟩, ⟨.bvc, !s.p.v⟩,
   ⟨.bvs, s.p.v⟩]

/-- The 46 unassigned op codes (R124). -/
def unassignedInstrs : List Instr :=
  [.rsv02 ⟨⟩, .rsv03, .rsv0B, .rsv13, .rsv1B, .rsv22 ⟨⟩, .rsv23, .rsv2B, .rsv33, .rsv3B, .rsv42 ⟨⟩, .rsv43,
   .rsv44 ⟨⟩, .rsv4B, .rsv53, .rsv54 ⟨⟩, .rsv5B, .rsv5C ⟨⟩ ⟨⟩, .rsv62 ⟨⟩, .rsv63, .rsv6B, .rsv73, .rsv7B,
   .rsv82 ⟨⟩, .rsv83, .rsv8B, .rsv93, .rsv9B, .rsvA3, .rsvAB, .rsvB3, .rsvBB, .rsvC2 ⟨⟩, .rsvC3, .rsvCB, .rsvD3,
   .rsvD4 ⟨⟩, .rsvDB, .rsvDC ⟨⟩ ⟨⟩, .rsvE2 ⟨⟩, .rsvE3, .rsvEB, .rsvF3, .rsvF4 ⟨⟩, .rsvFB, .rsvFC ⟨⟩ ⟨⟩]

/-- The flag instructions and NOP, with the flags each leaves (R260 to R267). -/
def flagForms (p : Flags) : List (Instr × Flags) :=
  [(.clc, { p with c := false }), (.cld, { p with d := false }), (.cli, { p with i := false }),
   (.clv, { p with v := false }), (.sec, { p with c := true }), (.sed, { p with d := true }),
   (.sei, { p with i := true }), (.nop, p)]

/-- The instructions whose rule writes V (R37): ADC, SBC, the memory forms of BIT, CLV, PLP and RTI. -/
def writesOverflow : Instr → Bool
  | .adcImm _ | .adcZp _ | .adcZpX _ | .adcIndX _ | .adcIndY _ | .adcInd _ | .adcAbs _ | .adcAbsX _ | .adcAbsY _ => true
  | .sbcImm _ | .sbcZp _ | .sbcZpX _ | .sbcIndX _ | .sbcIndY _ | .sbcInd _ | .sbcAbs _ | .sbcAbsX _ | .sbcAbsY _ => true
  | .bitZp _ | .bitZpX _ | .bitAbs _ | .bitAbsX _ => true
  | .clv | .plp | .rti => true
  | _ => false

/-! Cycle counts -/

/-- A form and its machine cycles (R360). -/
structure CycleForm where
  instr : Instr
  cycles : Nat

/-- One more cycle when the index carries into the high byte of the address (R74, R360). -/
def pageCycle (base : Word) (index : Byte) : Nat := if base.toNat % 256 + index.toNat < 256 then 0 else 1

/-- The cycles of the nine forms that ADC, AND, CMP, EOR, LDA, ORA and SBC share, in binary mode. -/
def nineCycles (imm zp zpX indX indY ind : Byte → Instr) (abs absX absY : Word → Instr) (s : State) (b : Byte) (w : Word) :
    List CycleForm :=
  [⟨imm b, 2⟩, ⟨zp b, 3⟩, ⟨zpX b, 4⟩, ⟨indX b, 6⟩, ⟨indY b, 5 + pageCycle (s.readWordZP b) s.y⟩, ⟨ind b, 5⟩, ⟨abs w, 4⟩,
   ⟨absX w, 4 + pageCycle w s.x⟩, ⟨absY w, 4 + pageCycle w s.y⟩]

def adcCycles := nineCycles .adcImm .adcZp .adcZpX .adcIndX .adcIndY .adcInd .adcAbs .adcAbsX .adcAbsY
def andCycles := nineCycles .andImm .andZp .andZpX .andIndX .andIndY .andInd .andAbs .andAbsX .andAbsY
def cmpCycles := nineCycles .cmpImm .cmpZp .cmpZpX .cmpIndX .cmpIndY .cmpInd .cmpAbs .cmpAbsX .cmpAbsY
def eorCycles := nineCycles .eorImm .eorZp .eorZpX .eorIndX .eorIndY .eorInd .eorAbs .eorAbsX .eorAbsY
def ldaCycles := nineCycles .ldaImm .ldaZp .ldaZpX .ldaIndX .ldaIndY .ldaInd .ldaAbs .ldaAbsX .ldaAbsY
def oraCycles := nineCycles .oraImm .oraZp .oraZpX .oraIndX .oraIndY .oraInd .oraAbs .oraAbsX .oraAbsY
def sbcCycles := nineCycles .sbcImm .sbcZp .sbcZpX .sbcIndX .sbcIndY .sbcInd .sbcAbs .sbcAbsX .sbcAbsY

/-- The other indexed loads and tests (R360). -/
def indexedLoadCycles (s : State) (b : Byte) (w : Word) : List CycleForm :=
  [⟨.ldxZpY b, 4⟩, ⟨.ldxAbsY w, 4 + pageCycle w s.y⟩, ⟨.ldyZpX b, 4⟩, ⟨.ldyAbsX w, 4 + pageCycle w s.x⟩, ⟨.bitZpX b, 4⟩,
   ⟨.bitAbsX w, 4 + pageCycle w s.x⟩]

/-- The indexed stores, whose count is fixed (R360). -/
def indexedStoreCycles (b : Byte) (w : Word) : List CycleForm :=
  [⟨.staZpX b, 4⟩, ⟨.staAbsX w, 5⟩, ⟨.staAbsY w, 5⟩, ⟨.staIndX b, 6⟩, ⟨.staIndY b, 6⟩, ⟨.stxZpY b, 4⟩, ⟨.styZpX b, 4⟩,
   ⟨.stzZpX b, 4⟩, ⟨.stzAbsX w, 5⟩]

/-! Runs and the step -/

/-- One instruction executed `n` times over. -/
def execTimes (i : Instr) : Nat → State → Out
  | 0, s => .next s
  | n + 1, s =>
    match exec i s with
    | .next t => execTimes i n t
    | .fault f => .fault f
    | .refused r => .refused r

/-- Nothing holds the CPU and no reset is due: RES, RDY and BE high, the clock running and its state kept. -/
structure Ready (s : State) : Prop where
  res_high : s.pins.res = true
  clock_runs : s.pins.clock = .running
  rdy_high : s.pins.rdy = true
  be_high : s.pins.be = true
  no_reset : s.resPending = false
  state_kept : s.stateLost = false

/-- Nothing holds the CPU, and the environment does nothing. -/
structure Live (s : State) : Prop extends Ready s where
  schedule_nil : s.schedule = []

/-- No interrupt is due: no NMI edge waits, and IRQ is high or masked (R302, R303). -/
structure NoInterrupt (s : State) : Prop where
  no_nmi : s.nmiPending = false
  no_irq : s.pins.irq = true ∨ s.p.i = true

/-- At the boundary and within the step no pin changes; another bus master may write. -/
structure NoPinEvent (b : Boundary) : Prop where
  events_nil : b.events = []
  no_so : b.soWithin = false
  no_res : b.resWithin = false

/-- The two-boundary schedule of a RES pulse: low at one boundary, high at the next (R350). -/
def resetPulse : List Boundary :=
  [{ Boundary.quiet with events := [.res false] }, { Boundary.quiet with events := [.res true] }]

/-- SO falls within the step (R315). -/
def soEdge : Boundary := { Boundary.quiet with soWithin := true }

/-- RES falls within the step (R350). -/
def resEdge : Boundary := { Boundary.quiet with resWithin := true }

/-- The boundary at which the environment defers an IRQ that may be deferred (R304 (d)). -/
def deferral : Boundary := { Boundary.quiet with deferIrq := true }

end Sys2Proof.Claims

open Sys2Proof Sys2Proof.Machine Sys2Proof.Claims

/-- One or two instructions of every family, written out byte by byte from the encodings and examples of their
rules, decode to the instruction they stand for, with nothing left over; op code 0x03 is read as the unassigned one
it is. (R101, R103, R121, R124, R165, R200, R220, R232, R233, R268.) -/
def Obligations.DecodedSamples : Prop :=
  decode [0x69, 0x05] = .ok (.adcImm 0x05, []) ∧ decode [0xE9, 0x30] = .ok (.sbcImm 0x30, []) ∧
  decode [0xC9, 0x41] = .ok (.cmpImm 0x41, []) ∧ decode [0xC6, 0x10] = .ok (.decZp 0x10, []) ∧
  decode [0xBD, 0x34, 0x12] = .ok (.ldaAbsX 0x1234, []) ∧ decode [0xB6, 0x10] = .ok (.ldxZpY 0x10, []) ∧
  decode [0x91, 0x20] = .ok (.staIndY 0x20, []) ∧ decode [0x9A] = .ok (.txs, []) ∧
  decode [0x29, 0xAA] = .ok (.andImm 0xAA, []) ∧ decode [0x24, 0x40] = .ok (.bitZp 0x40, []) ∧
  decode [0x14, 0x20] = .ok (.trbZp 0x20, []) ∧ decode [0x2A] = .ok (.rolAcc, []) ∧
  decode [0x37, 0x12] = .ok (.rmb3 0x12, []) ∧ decode [0xF7, 0x12] = .ok (.smb7 0x12, []) ∧
  decode [0x90, 0x04] = .ok (.bcc 0x04, []) ∧ decode [0x8F, 0x12, 0xFE] = .ok (.bbs0 0x12 0xFE, []) ∧
  decode [0x6C, 0xFF, 0x30] = .ok (.jmpInd 0x30FF, []) ∧ decode [0x20, 0x34, 0x12] = .ok (.jsr 0x1234, []) ∧
  decode [0x48] = .ok (.pha, []) ∧ decode [0xD8] = .ok (.cld, []) ∧ decode [0x00] = .ok (.brk, []) ∧
  decode [0x40] = .ok (.rti, []) ∧ decodeOp 0x03 0x12 0x34 = .rsv03

/-- For every instruction, every value of its operands and any bytes that follow, decoding its encoding gives the
instruction and leaves exactly the bytes that follow. The 46 unassigned op codes have no operands; their encoding is
as long as the free RsvLen says, and its bytes after the op code are zeros, the model's choice (log 4). (R100, R101,
R103, R121.) -/
def Obligations.DecodeEncode : Prop :=
  ∀ (i : Instr) (rest : List Byte), decode (encode i ++ rest) = .ok (i, rest)

/-- Whatever bytes decode, the op code is their first byte, the encoding of the instruction is as long as what was
taken off them, and for every assigned op code it is what was taken off them: no bit of an encoding is dropped and
no two encodings give one instruction. The bytes an unassigned op code skips carry no meaning, and their number is
the free RsvLen (log 4). (R100, R101, R103, R121, R125.) -/
def Obligations.EncodeDecode : Prop :=
  ∀ (bytes : List Byte) (i : Instr) (rest : List Byte), decode bytes = .ok (i, rest) →
    bytes.head? = some (opcode i) ∧ (encode i).length ≤ bytes.length ∧ rest = bytes.drop (encode i).length ∧
    (unassigned (opcode i) = false → encode i ++ rest = bytes)

/-- A string of bytes decodes to one instruction with nothing left over exactly when it is well formed, and the only
strings refused are the empty one and one shorter than its first byte requires. An assigned op code has the length
of its format; for the unassigned ones the length is the free RsvLen (log 4). (R100, R101, R103, R124, R125.) -/
def Obligations.DecodeWellFormed : Prop :=
  (∀ bytes : List Byte, (∃ i, decode bytes = .ok (i, [])) ↔ wellFormed bytes = true) ∧
  (∀ bytes : List Byte, decode bytes = .error .empty ↔ bytes = []) ∧
  (∀ (bytes : List Byte) (op : Byte), decode bytes = .error (.truncated op) ↔
    bytes.head? = some op ∧ bytes.length < opLength op) ∧
  (∀ op : Byte, unassigned op = false → opLength op = (opFormat op).length) ∧
  (∀ op : Byte, unassigned op = true → opLength op = Config.rsvLen op)

/-- For every instruction and state, once its bytes are stored in RAM at ascending addresses from pc on, wrapping
from 0xFFFF to 0x0000, and with no other bus master at work, the fetch reads that instruction. That a store is seen
by the next fetch is read from the spec by inference (log 27); the bytes of an unassigned op code are the model's
choice (log 4). (R28, R75, R100, R102.) -/
def Obligations.FetchStored : Prop :=
  ∀ (i : Instr) (s : State), s.dma = [] →
    (∀ k < (encode i).length, kindAt s.platform (s.pc + BitVec.ofNat 16 k) = .ram) →
    (s.writeBytes s.pc (encode i)).fetch = i

/-- When nothing holds the CPU, no reset and no interrupt is due, no pin changes, and the bytes fetched at pc decode
to an instruction that exec takes from the state in which the step begins to t, the step answers t with what other
bus masters still write, and with the instruction register, the cycle counts, the bus accesses and the deferral mark
recorded; nothing else is changed. The step begins with the coming boundary taken off the schedule, its writes by
other masters known, an empty record and the next draw. What is recorded, and that an instruction at a boundary is
one step, is the model's choice (logs 3, 9, 18, 19, 20, 24). (R10, R27, R41, R102, R302, R303.) -/
def Obligations.StepRunsInstruction : Prop :=
  ∀ (s t : State) (i : Instr) (rest : List Byte), Ready s → NoPinEvent s.boundary → NoInterrupt s →
    let u : State :=
      { s with schedule := s.schedule.tail, dma := s.boundary.writesWithin, bus := [], draws := s.draws + 1 }
    decode [u.readAt fetchPlace s.pc, u.readAt (fetchPlace + 1) (s.pc + 1), u.readAt (fetchPlace + 2) (s.pc + 2)] =
      .ok (i, rest) →
    exec i u = .next t →
    step s = .next { t.finish with
      ir := u.readAt fetchPlace s.pc
      tcu := cyclesOf i u
      cycles := s.cycles + cyclesOf i u
      bus := busAccesses i u t
      irqShadow := unmasks i && s.p.i && !t.p.i }

/-- From every state that meets the invariant (memory in canonical form, the marks of a RES pulse agreeing with the
pin, the deferral mark only while I is 0, no step longer than the time passed unless the CPU's state is lost, no
other bus master in the middle of a step), whatever its pins, platform and schedule, a step that answers a next
state answers one that meets it. The marks, the counts and the canonical form are the model's own (logs 1, 9, 14,
15, 18, 20). (R10, R60, R77, R304, R350, R357, R360.) -/
def Obligations.InvKept : Prop :=
  ∀ s t : State, s.Inv → step s = .next t → t.Inv

/-- The state after reset meets the invariant that every step keeps. The values at reset of the model's own fields
are its choice (log 25). (R44, R60.) -/
def Obligations.InvAtReset : Prop :=
  State.reset.Inv

/-- After reset pc is the word at 0xFFFC and 0xFFFD, low byte first, I is 1, D is 0, no NMI edge is pending, no RES
edge is pending. The registers the spec leaves unspecified are not in the statement. (R44, R351.) -/
def Obligations.ResetState : Prop :=
  State.reset.pc = wordOf (State.reset.read 0xFFFC) (State.reset.read 0xFFFD) ∧ State.reset.p.i = true ∧
  State.reset.p.d = false ∧ State.reset.nmiPending = false ∧ State.reset.resPending = false

/-- LDA, LDX and LDY answer a next state in which the register is the operand, N is its bit 7, Z says whether it is
zero, pc is past the instruction, and every other register, flag and byte of memory is as before. (R9, R140, R141,
R142, R143.) -/
def Obligations.LoadResult : Prop :=
  ∀ (s : State) (b : Byte) (w : Word),
    (∀ f ∈ ldaForms s b w,
      exec f.instr s = .next { s with a := f.operand, p := nz s.p f.operand, pc := pcAfter s f.length }) ∧
    (∀ f ∈ ldxForms s b w,
      exec f.instr s = .next { s with x := f.operand, p := nz s.p f.operand, pc := pcAfter s f.length }) ∧
    (∀ f ∈ ldyForms s b w,
      exec f.instr s = .next { s with y := f.operand, p := nz s.p f.operand, pc := pcAfter s f.length })

/-- Each form of STA, STX, STY and STZ answers a next state in which the register, or zero, is presented for storing
at its effective address and, where that is RAM, stands there; every other byte of memory is as the other bus
masters leave it (as before, with none at work), the write is on the bus, pc is past the instruction, and no
register or flag has changed. (R62, R140, R144, R145, R146, R147.) -/
def Obligations.StoreResult : Prop :=
  ∀ (s : State) (b : Byte) (w : Word),
    (∀ f ∈ staForms s b w, ∃ t, exec f.instr s = .next t ∧ Stored s t dataPlace false f.ea s.a s.p f.length) ∧
    (∀ f ∈ stxForms s b w, ∃ t, exec f.instr s = .next t ∧ Stored s t dataPlace false f.ea s.x s.p f.length) ∧
    (∀ f ∈ styForms s b w, ∃ t, exec f.instr s = .next t ∧ Stored s t dataPlace false f.ea s.y s.p f.length) ∧
    (∀ f ∈ stzForms s b w, ∃ t, exec f.instr s = .next t ∧ Stored s t dataPlace false f.ea 0x00 s.p f.length)

/-- TAX, TAY, TSX, TXA and TYA copy the register and set N and Z from it; TXS copies X to S and changes no flag.
Nothing else changes but pc. (R148, R149, R150, R151, R152, R153.) -/
def Obligations.TransferResult : Prop :=
  ∀ s : State,
    exec .tax s = .next { s with x := s.a, p := nz s.p s.a, pc := pcAfter s 1 } ∧
    exec .tay s = .next { s with y := s.a, p := nz s.p s.a, pc := pcAfter s 1 } ∧
    exec .tsx s = .next { s with x := s.sp, p := nz s.p s.sp, pc := pcAfter s 1 } ∧
    exec .txa s = .next { s with a := s.x, p := nz s.p s.x, pc := pcAfter s 1 } ∧
    exec .tya s = .next { s with a := s.y, p := nz s.p s.y, pc := pcAfter s 1 } ∧
    exec .txs s = .next { s with sp := s.x, pc := pcAfter s 1 }

/-- The absolute address is the operand, low byte first. Zero-page forms wrap in page zero, before and after
indexing; pointers of the indirect forms take both bytes from page zero; absolute indexing wraps at 65536; the
pointers of JMP (also R118) carry into the next page. A relative target is the signed offset from the next
instruction, two bytes on for Relative and three for ZP REL, whose datum is in page zero. (R107, R108, R109, R110,
R111, R112, R113, R114, R115, R116, R117, R119.) -/
def Obligations.EffectiveAddresses : Prop :=
  ∀ (s : State) (b : Byte) (w : Word),
    let at16 (place n : Nat) : Nat := (s.readAt place (BitVec.ofNat 16 n)).toNat
    let pointerZp (z : Nat) : Nat :=
      at16 pointerPlace (z % 256) + 256 * at16 (pointerPlace + 1) ((z + 1) % 256)
    let pointer (n : Nat) : Nat :=
      at16 pointerPlace (n % 65536) + 256 * at16 (pointerPlace + 1) ((n + 1) % 65536)
    (∀ lo hi : Byte, decode [0xAD, lo, hi] = .ok (.ldaAbs (BitVec.ofNat 16 (256 * hi.toNat + lo.toNat)), [])) ∧
    dataAddr (.ldaAbs w) s = some w ∧
    (eaZp b).toNat = b.toNat ∧
    (eaZpX b s).toNat = (b.toNat + s.x.toNat) % 256 ∧
    (eaZpY b s).toNat = (b.toNat + s.y.toNat) % 256 ∧
    (eaAbsX w s).toNat = (w.toNat + s.x.toNat) % 65536 ∧
    (eaAbsY w s).toNat = (w.toNat + s.y.toNat) % 65536 ∧
    (eaIndX b s).toNat = pointerZp (b.toNat + s.x.toNat) ∧
    (eaIndY b s).toNat = (pointerZp b.toNat + s.y.toNat) % 65536 ∧
    (eaInd b s).toNat = pointerZp b.toNat ∧
    (targetAbsInd w s).toNat = pointer w.toNat ∧
    (targetAbsIndX w s).toNat = pointer (w.toNat + s.x.toNat) ∧
    ((relTarget 2 b s).toNat : Int) = (s.pc.toNat + 2 + b.toInt) % 65536 ∧
    ((relTarget 3 b s).toNat : Int) = (s.pc.toNat + 3 + b.toInt) % 65536 ∧
    (∀ rel : Byte, dataAddr (.bbr0 b rel) s = some (eaZp b))

/-- AddBin(a, m, c): the result is the sum modulo 256, the carry says whether the sum exceeds 255, the overflow is 1
exactly when a and m agree in bit 7 and the result does not, which is bit 7 of (a xor r) and (m xor r), and exactly
when the signed sum lies outside -128 to 127. (R160.) -/
def Obligations.AddBinLaw : Prop :=
  ∀ (a m : Byte) (c : Bool),
    let r := addBin a m c
    let sum := a.toNat + m.toNat + c.toNat
    let signed := a.toInt + m.toInt + c.toInt
    r.result.toNat = sum % 256 ∧ r.carry = decide (255 < sum) ∧
    r.overflow = decide (a.getLsbD 7 = m.getLsbD 7 ∧ r.result.getLsbD 7 ≠ a.getLsbD 7) ∧
    r.overflow = ((a ^^^ r.result) &&& (m ^^^ r.result)).getLsbD 7 ∧
    r.overflow = decide (signed < -128 ∨ 127 < signed)

/-- SubBin(a, m, c): the result is a - m - (1 - c) modulo 256, the carry says that there is no borrow, the overflow
is 1 exactly when a and m differ in bit 7 and the result differs from a there, and all three are those of AddBin(a,
m xor 0xFF, c); with c = 1 nothing more than m is subtracted, as with c = 0 nothing more than m is added. (R161.) -/
def Obligations.SubBinLaw : Prop :=
  ∀ (a m : Byte) (c : Bool),
    let r := subBin a m c
    let d : Int := (a.toNat : Int) - m.toNat - (1 - c.toNat)
    (r.result.toNat : Int) = d % 256 ∧ r.carry = decide (0 ≤ d) ∧
    r.overflow = decide (a.getLsbD 7 ≠ m.getLsbD 7 ∧ r.result.getLsbD 7 ≠ a.getLsbD 7) ∧
    r = addBin a (m ^^^ 0xFF) c ∧
    (subBin a m true).result = a - m ∧ (addBin a m false).result = a + m

/-- With D = 0, ADC answers a next state in which A is the sum of A, the operand and C modulo 256, C the carry out,
V the signed overflow, N bit 7 of the result, Z whether it is zero, pc is past the instruction, and nothing else has
changed. (R140, R160, R165.) -/
def Obligations.AdcBinaryResult : Prop :=
  ∀ (s : State) (b : Byte) (w : Word), s.p.d = false → ∀ f ∈ adcForms s b w, ∃ t,
    let sum := s.a.toNat + f.operand.toNat + s.p.c.toNat
    let signed := s.a.toInt + f.operand.toInt + s.p.c.toInt
    exec f.instr s = .next t ∧
    t = { s with
      a := t.a
      p := { s.p with
        c := decide (255 < sum), v := decide (signed < -128 ∨ 127 < signed), n := t.a.getLsbD 7, z := decide (t.a = 0) }
      pc := pcAfter s f.length } ∧
    t.a.toNat = sum % 256

/-- With D = 0, SBC answers a next state in which A is A less the operand less the borrow modulo 256, C is 1 when
there is no borrow, V is the signed overflow, N bit 7 of the result, Z whether it is zero, pc is past the
instruction, and nothing else has changed. (R140, R161, R166.) -/
def Obligations.SbcBinaryResult : Prop :=
  ∀ (s : State) (b : Byte) (w : Word), s.p.d = false → ∀ f ∈ sbcForms s b w, ∃ t,
    let d : Int := (s.a.toNat : Int) - f.operand.toNat - (1 - s.p.c.toNat)
    let signed : Int := s.a.toInt - f.operand.toInt - (1 - s.p.c.toNat)
    exec f.instr s = .next t ∧
    t = { s with
      a := t.a
      p := { s.p with
        c := decide (0 ≤ d), v := decide (signed < -128 ∨ 127 < signed), n := t.a.getLsbD 7, z := decide (t.a = 0) }
      pc := pcAfter s f.length } ∧
    (t.a.toNat : Int) = d % 256

/-- With D = 1 and both A and the operand valid BCD, ADC answers a next state in which A is the valid BCD byte of
the decimal sum modulo 100, C says whether the sum reached 100, N and Z describe the stored result, V is the free
DecimalV, pc is past the instruction, and nothing else has changed. (R140, R162, R165.) -/
def Obligations.AdcDecimalResult : Prop :=
  ∀ (s : State) (b : Byte) (w : Word), s.p.d = true → isBcd s.a → ∀ f ∈ adcForms s b w, isBcd f.operand → ∃ t,
    let sum := bcdValue s.a + bcdValue f.operand + s.p.c.toNat
    exec f.instr s = .next t ∧
    t = { s with
      a := t.a
      p := { s.p with
        c := decide (100 ≤ sum), v := Config.decimalV s.a f.operand s.p.c .add, n := t.a.getLsbD 7, z := decide (t.a = 0) }
      pc := pcAfter s f.length } ∧
    isBcd t.a ∧ bcdValue t.a = sum % 100

/-- With D = 1 and both A and the operand valid BCD, SBC answers a next state in which A is the valid BCD byte of
the decimal difference modulo 100, C says that there is no borrow, N and Z describe the stored result, V is the free
DecimalV, pc is past the instruction, and nothing else has changed. (R140, R163, R166.) -/
def Obligations.SbcDecimalResult : Prop :=
  ∀ (s : State) (b : Byte) (w : Word), s.p.d = true → isBcd s.a → ∀ f ∈ sbcForms s b w, isBcd f.operand → ∃ t,
    let d : Int := (bcdValue s.a : Int) - bcdValue f.operand - (1 - s.p.c.toNat)
    exec f.instr s = .next t ∧
    t = { s with
      a := t.a
      p := { s.p with
        c := decide (0 ≤ d), v := Config.decimalV s.a f.operand s.p.c .sub, n := t.a.getLsbD 7, z := decide (t.a = 0) }
      pc := pcAfter s f.length } ∧
    isBcd t.a ∧ (bcdValue t.a : Int) = d % 100

/-- With D = 1 and A or the operand not valid BCD, ADC and SBC still answer a next state: A, N, V, Z and C are the
free DecimalInvalid of the operands (log 6: the spec gives no value), pc is past the instruction, and nothing else
has changed. (R162, R163, R165, R166.) -/
def Obligations.DecimalInvalidResult : Prop :=
  ∀ (s : State) (b : Byte) (w : Word), s.p.d = true →
    (∀ f ∈ adcForms s b w, ¬ (isBcd s.a ∧ isBcd f.operand) →
      let r := Config.decimalInvalid s.a f.operand s.p.c .add
      exec f.instr s = .next { s with
        a := r.result
        p := { s.p with n := r.negative, v := r.overflow, z := r.zero, c := r.carry }
        pc := pcAfter s f.length }) ∧
    (∀ f ∈ sbcForms s b w, ¬ (isBcd s.a ∧ isBcd f.operand) →
      let r := Config.decimalInvalid s.a f.operand s.p.c .sub
      exec f.instr s = .next { s with
        a := r.result
        p := { s.p with n := r.negative, v := r.overflow, z := r.zero, c := r.carry }
        pc := pcAfter s f.length })

/-- Every form of CMP, CPX and CPY answers a next state in which C says that the register is at least the operand
(unsigned), Z that they are equal, N is bit 7 of the difference modulo 256, pc is past the instruction, and nothing
else has changed: not the register, not V, whatever D and C were. (R164.) -/
def Obligations.CompareResult : Prop :=
  ∀ (s : State) (b : Byte) (w : Word),
    let result (r m : Byte) : Flags :=
      { s.p with c := decide (m.toNat ≤ r.toNat), z := decide (r = m), n := (BitVec.ofInt 8 (r.toNat - m.toNat)).getLsbD 7 }
    (∀ f ∈ cmpForms s b w, exec f.instr s = .next { s with p := result s.a f.operand, pc := pcAfter s f.length }) ∧
    (∀ f ∈ cpxForms s b w, exec f.instr s = .next { s with p := result s.x f.operand, pc := pcAfter s f.length }) ∧
    (∀ f ∈ cpyForms s b w, exec f.instr s = .next { s with p := result s.y f.operand, pc := pcAfter s f.length })

/-- INC A, DEC A, INX, DEX, INY and DEY answer a next state in which the register is one more or one less modulo
256, N and Z follow it, pc is past the instruction, and nothing else has changed: not C, not V. The memory forms of
INC and DEC do so with the byte read at the effective address, which is written back there; no register has changed.
(R72, R170, R171, R172, R173, R174, R175, R176.) -/
def Obligations.CountResult : Prop :=
  ∀ (s : State) (b : Byte) (w : Word),
    let up (v : Byte) : Byte := BitVec.ofNat 8 ((v.toNat + 1) % 256)
    let down (v : Byte) : Byte := BitVec.ofNat 8 ((v.toNat + 255) % 256)
    exec .incAcc s = .next { s with a := up s.a, p := nz s.p (up s.a), pc := pcAfter s 1 } ∧
    exec .decAcc s = .next { s with a := down s.a, p := nz s.p (down s.a), pc := pcAfter s 1 } ∧
    exec .inx s = .next { s with x := up s.x, p := nz s.p (up s.x), pc := pcAfter s 1 } ∧
    exec .dex s = .next { s with x := down s.x, p := nz s.p (down s.x), pc := pcAfter s 1 } ∧
    exec .iny s = .next { s with y := up s.y, p := nz s.p (up s.y), pc := pcAfter s 1 } ∧
    exec .dey s = .next { s with y := down s.y, p := nz s.p (down s.y), pc := pcAfter s 1 } ∧
    (∀ f ∈ incForms s b w, ∃ t v, exec f.instr s = .next t ∧
      Stored s t writeBackPlace true f.ea v (nz s.p v) f.length ∧ v.toNat = ((s.datum f.ea).toNat + 1) % 256) ∧
    (∀ f ∈ decForms s b w, ∃ t v, exec f.instr s = .next t ∧
      Stored s t writeBackPlace true f.ea v (nz s.p v) f.length ∧ v.toNat = ((s.datum f.ea).toNat + 255) % 256)

/-- Each answers a next state in which A is the bitwise combination of A and the operand, N and Z follow it, pc is
past the instruction, and nothing else has changed: not C, not V. (R190, R191, R192, R202.) -/
def Obligations.LogicResult : Prop :=
  ∀ (s : State) (b : Byte) (w : Word),
    (∀ f ∈ andForms s b w, exec f.instr s =
      .next { s with a := s.a &&& f.operand, p := nz s.p (s.a &&& f.operand), pc := pcAfter s f.length }) ∧
    (∀ f ∈ eorForms s b w, exec f.instr s =
      .next { s with a := s.a ^^^ f.operand, p := nz s.p (s.a ^^^ f.operand), pc := pcAfter s f.length }) ∧
    (∀ f ∈ oraForms s b w, exec f.instr s =
      .next { s with a := s.a ||| f.operand, p := nz s.p (s.a ||| f.operand), pc := pcAfter s f.length })

/-- BIT: Z says whether A and the operand share no 1 bit; in the memory forms N and V are bits 7 and 6 of the
operand, in the immediate form they are unchanged. TRB and TSB: Z likewise from the old byte, N and V unchanged, and
the byte at the effective address has each bit of A cleared or set and its other bits as before. Nothing else
changes but pc. (R72, R193, R198, R199.) -/
def Obligations.BitTestResult : Prop :=
  ∀ (s : State) (b : Byte) (w : Word),
    (∀ f ∈ bitForms s b w, exec f.instr s = .next { s with
      p := { s.p with z := decide (s.a &&& f.operand = 0), n := f.operand.getLsbD 7, v := f.operand.getLsbD 6 }
      pc := pcAfter s f.length }) ∧
    exec (.bitImm b) s = .next { s with p := { s.p with z := decide (s.a &&& b = 0) }, pc := pcAfter s 2 } ∧
    (∀ f ∈ trbForms b w, ∃ t v, exec f.instr s = .next t ∧
      Stored s t writeBackPlace true f.ea v { s.p with z := decide (s.a &&& s.datum f.ea = 0) } f.length ∧
      ∀ k, k < 8 → v.getLsbD k = if s.a.getLsbD k then false else (s.datum f.ea).getLsbD k) ∧
    (∀ f ∈ tsbForms b w, ∃ t v, exec f.instr s = .next t ∧
      Stored s t writeBackPlace true f.ea v { s.p with z := decide (s.a &&& s.datum f.ea = 0) } f.length ∧
      ∀ k, k < 8 → v.getLsbD k = if s.a.getLsbD k then true else (s.datum f.ea).getLsbD k)

/-- Each answers a next state in which the accumulator, or the byte read at the effective address and written back
there, is twice or half the old value, with 0 or the old C in the bit that comes free, C is the bit shifted out, N
and Z follow the result, pc is past the instruction, and nothing else has changed. (R72, R194, R195, R196, R197,
R202.) -/
def Obligations.ShiftResult : Prop :=
  ∀ (s : State) (b : Byte) (w : Word),
    let acc (r : Byte) (c : Bool) : State := { s with a := r, p := { nz s.p r with c := c }, pc := pcAfter s 1 }
    let shifts (f : StoreForm) (c : Bool) (result : Nat) : Prop := ∃ t v, exec f.instr s = .next t ∧
      Stored s t writeBackPlace true f.ea v { nz s.p v with c := c } f.length ∧ v.toNat = result
    (∃ r, exec .aslAcc s = .next (acc r (s.a.getLsbD 7)) ∧ r.toNat = 2 * s.a.toNat % 256) ∧
    (∃ r, exec .lsrAcc s = .next (acc r (s.a.getLsbD 0)) ∧ r.toNat = s.a.toNat / 2) ∧
    (∃ r, exec .rolAcc s = .next (acc r (s.a.getLsbD 7)) ∧ r.toNat = 2 * s.a.toNat % 256 + s.p.c.toNat) ∧
    (∃ r, exec .rorAcc s = .next (acc r (s.a.getLsbD 0)) ∧ r.toNat = s.a.toNat / 2 + 128 * s.p.c.toNat) ∧
    (∀ f ∈ aslForms s b w, shifts f ((s.datum f.ea).getLsbD 7) (2 * (s.datum f.ea).toNat % 256)) ∧
    (∀ f ∈ lsrForms s b w, shifts f ((s.datum f.ea).getLsbD 0) ((s.datum f.ea).toNat / 2)) ∧
    (∀ f ∈ rolForms s b w, shifts f ((s.datum f.ea).getLsbD 7) (2 * (s.datum f.ea).toNat % 256 + s.p.c.toNat)) ∧
    (∀ f ∈ rorForms s b w, shifts f ((s.datum f.ea).getLsbD 0) ((s.datum f.ea).toNat / 2 + 128 * s.p.c.toNat))

/-- Nine ROL A in a row give back A and C, as do nine ROR A: each is a nine-bit rotate through C. Eight do not, in
general. (R196, R197, R202.) -/
def Obligations.NineRotates : Prop :=
  (∀ s : State, ∃ t, execTimes .rolAcc 9 s = .next t ∧ t.a = s.a ∧ t.p.c = s.p.c) ∧
  (∀ s : State, ∃ t, execTimes .rorAcc 9 s = .next t ∧ t.a = s.a ∧ t.p.c = s.p.c) ∧
  (∃ s t : State, execTimes .rolAcc 8 s = .next t ∧ t.a ≠ s.a)

/-- For each n, RMBn and SMBn have the op codes 0x07 + 0x10 n and 0x87 + 0x10 n, and answer a next state in which
bit n of the page-zero byte is 0 or 1, its other bits are as before, pc is past the instruction, and nothing else
has changed. Whether their write carries ML is a free constant (log 19). (R108, R120, R200, R201.) -/
def Obligations.BitMemoryResult : Prop :=
  ∀ (n : Fin 8) (zp : Byte) (s : State),
    (opcode (rmb n zp)).toNat = 0x07 + 0x10 * n.val ∧ (opcode (smb n zp)).toNat = 0x87 + 0x10 * n.val ∧
    (∃ t v, exec (rmb n zp) s = .next t ∧ Stored s t writeBackPlace Config.mlDuringBitOps (eaZp zp) v s.p 2 ∧
      ∀ k, k < 8 → v.getLsbD k = if k = n.val then false else (s.datum (eaZp zp)).getLsbD k) ∧
    (∃ t v, exec (smb n zp) s = .next t ∧ Stored s t writeBackPlace Config.mlDuringBitOps (eaZp zp) v s.p 2 ∧
      ∀ k, k < 8 → v.getLsbD k = if k = n.val then true else (s.datum (eaZp zp)).getLsbD k)

/-- Each of the eight conditional branches goes to the address of the next instruction plus the signed offset when
its condition holds, and to the next instruction when it does not; BRA always goes to the target. BBRn and BBSn have
the op codes 0x0F + 0x10 n and 0x8F + 0x10 n and branch when bit n of the page-zero byte is 0, or 1. Nothing changes
but pc. (R222 to R226 and R228, R229 give the other conditions.) (R114, R115, R120, R220, R221, R227, R230, R231.)
-/
def Obligations.BranchResult : Prop :=
  ∀ (s : State) (n : Fin 8) (zp rel : Byte),
    (∀ f ∈ flagBranches s, exec (f.instr rel) s =
      .next { s with pc := if f.cond then branchTarget s 2 rel else pcAfter s 2 }) ∧
    exec (.bra rel) s = .next { s with pc := branchTarget s 2 rel } ∧
    (opcode (bbr n zp rel)).toNat = 0x0F + 0x10 * n.val ∧ (opcode (bbs n zp rel)).toNat = 0x8F + 0x10 * n.val ∧
    exec (bbr n zp rel) s = .next { s with
      pc := if (s.datum (eaZp zp)).getLsbD n = false then branchTarget s 3 rel else pcAfter s 3 } ∧
    exec (bbs n zp rel) s = .next { s with
      pc := if (s.datum (eaZp zp)).getLsbD n = true then branchTarget s 3 rel else pcAfter s 3 }

/-- JMP goes to its operand, to the word at its operand, or to the word at its operand plus X, the word's high byte
at the next address with the carry into the next page. Nothing changes but pc. (R64, R113, R118, R232.) -/
def Obligations.JumpResult : Prop :=
  ∀ (s : State) (w : Word),
    let wordAt (n : Nat) : Word :=
      BitVec.ofNat 16 ((s.readAt pointerPlace (BitVec.ofNat 16 n)).toNat +
        256 * (s.readAt (pointerPlace + 1) (BitVec.ofNat 16 (n + 1))).toNat)
    exec (.jmpAbs w) s = .next { s with pc := w } ∧
    exec (.jmpInd w) s = .next { s with pc := wordAt w.toNat } ∧
    exec (.jmpIndX w) s = .next { s with pc := wordAt (w.toNat + s.x.toNat) }

/-- Push8 presents its byte for storing at 0x0100 + S and leaves S one less modulo 256; Pull8 leaves S one more
modulo 256 and gives the byte at 0x0100 + S; a pull changes no byte, and a push changes no other byte, register or
flag. A push moves S down and S points at the next free byte: where that byte is RAM and no other bus master is at
work, a pull after it gives the byte pushed. (R25, R26.) -/
def Obligations.StackOperations : Prop :=
  ∀ (s : State) (place later : Nat) (v : Byte),
    (stackAddr s.sp).toNat = 0x0100 + s.sp.toNat ∧
    (∀ addr, (s.push place v).read addr =
      if addr = stackAddr s.sp ∧ kindAt s.platform addr = .ram then v else (s.upTo place).read addr) ∧
    s.push place v = { s.upTo place with
      mem := (s.push place v).mem, bus := s.bus ++ [writeAccess place (stackAddr s.sp) v], sp := (s.push place v).sp } ∧
    (s.push place v).sp.toNat = (s.sp.toNat + 255) % 256 ∧
    s.pull = { s with sp := s.pull.sp } ∧ s.pull.sp.toNat = (s.sp.toNat + 1) % 256 ∧
    s.pulled place = s.readAt place (stackAddr s.pull.sp) ∧ SameMemory s s.pull ∧ (s.push place v).pull.sp = s.sp ∧
    (s.dma = [] → kindAt s.platform (stackAddr s.sp) = .ram → (s.push place v).pulled later = v)

/-- The pushed image is N V 1 b D I Z C from bit 7 down, with b = 1 for PHP and BRK and b = 0 for the entries of IRQ
and NMI; it is what PHP writes on the bus at 0x0100 + S and what the entries write below the return address; its D
and I are those before the entry changes them. (R39.) -/
def Obligations.StatusImage : Prop :=
  (∀ (p : Flags) (b : Bool),
    (p.image b).getLsbD 7 = p.n ∧ (p.image b).getLsbD 6 = p.v ∧ (p.image b).getLsbD 5 = true ∧
    (p.image b).getLsbD 4 = b ∧ (p.image b).getLsbD 3 = p.d ∧ (p.image b).getLsbD 2 = p.i ∧
    (p.image b).getLsbD 1 = p.z ∧ (p.image b).getLsbD 0 = p.c) ∧
  (∀ s : State, ∃ t, exec .php s = .next t ∧ t.bus = s.bus ++ [writeAccess dataPlace (stackAddr s.sp) (s.p.image true)]) ∧
  (∀ s : State, ∃ t, exec .brk s = .next t ∧ writeAccess (dataPlace + 2) (stackAddr (s.sp - 2)) (s.p.image true) ∈ t.bus) ∧
  (∀ s : State, writeAccess (dataPlace + 2) (stackAddr (s.sp - 2)) (s.p.image false) ∈ s.takeIrq.bus) ∧
  (∀ s : State, writeAccess (dataPlace + 2) (stackAddr (s.sp - 2)) (s.p.image false) ∈ s.takeNmi.bus)

/-- PLP and RTI answer a next state in which N, V, D, I, Z and C are bits 7, 6, 3, 2, 1 and 0 of the byte pulled
first; two bytes that differ only in bits 5 and 4 give the same flags. (R40.) -/
def Obligations.SetPResult : Prop :=
  (∀ s : State, ∃ t, exec .plp s = .next t ∧ t.p = flagsOf (s.readAt dataPlace (stackAddr (s.sp + 1)))) ∧
  (∀ s : State, ∃ t, exec .rti s = .next t ∧ t.p = flagsOf (s.readAt dataPlace (stackAddr (s.sp + 1)))) ∧
  (∀ v v' : Byte, flagsOf v = flagsOf v' ↔ v &&& 0xCF = v' &&& 0xCF)

/-- A push answers a next state in which the register, or the status image with bit 4 set, is presented for storing
at 0x0100 + S, S is one less modulo 256, pc is past the instruction, every other byte of memory is as the other bus
masters leave it (as before, with none at work), and no flag or other register has changed. PLA, PLX and PLY take
the register, with N and Z, from the byte above S in page one (wrapping), PLP the flags; RTI the flags from that
byte and pc from the two above it, low byte first, adding nothing (R269); S is one, or three, more, and nothing else
has changed. (R25, R26, R39, R40, R252, R253, R254, R255, R256, R257, R258, R259.) -/
def Obligations.PushPullResult : Prop :=
  ∀ s : State,
    let pushes (i : Instr) (v : Byte) : Prop := ∃ t, exec i s = .next t ∧
      t = { s with
        mem := t.mem, dma := (s.upTo dataPlace).dma, bus := s.bus ++ [writeAccess dataPlace (stackAddr s.sp) v]
        sp := s.sp - 1, pc := pcAfter s 1 } ∧
      ∀ addr : Word, t.read addr =
        if addr = stackAddr s.sp ∧ kindAt s.platform addr = .ram then v else (s.upTo dataPlace).read addr
    let v := s.readAt dataPlace (stackAddr (s.sp + 1))
    pushes .pha s.a ∧ pushes .phx s.x ∧ pushes .phy s.y ∧ pushes .php (s.p.image true) ∧
    exec .pla s = .next { s with a := v, sp := s.sp + 1, p := nz s.p v, pc := pcAfter s 1 } ∧
    exec .plx s = .next { s with x := v, sp := s.sp + 1, p := nz s.p v, pc := pcAfter s 1 } ∧
    exec .ply s = .next { s with y := v, sp := s.sp + 1, p := nz s.p v, pc := pcAfter s 1 } ∧
    exec .plp s = .next { s with sp := s.sp + 1, p := flagsOf v, pc := pcAfter s 1 } ∧
    exec .rti s = .next { s with
      sp := s.sp + 3
      p := flagsOf v
      pc := wordOf (s.readAt (dataPlace + 1) (stackAddr (s.sp + 2))) (s.readAt (dataPlace + 2) (stackAddr (s.sp + 3))) }

/-- With the byte at 0x0100 + S in RAM and no other bus master at work, PLA after PHA, PLX after PHX, PLY after PHY
and PLP after PHP leave every register as it was but for pc, two further on, and N and Z of the pulls; PLP after PHP
gives back every flag. Every byte of memory is as before but the one pushed. (R25, R26, R39, R40, R252, R253, R254,
R255, R256, R257, R258, R259.) -/
def Obligations.PushThenPull : Prop :=
  ∀ s : State, s.dma = [] → kindAt s.platform (stackAddr s.sp) = .ram →
    let gives (push pull : Instr) (v : Byte) (p : Flags) : Prop := ∃ t u, exec push s = .next t ∧ exec pull t = .next u ∧
      u = { s with mem := u.mem, bus := s.bus ++ [writeAccess dataPlace (stackAddr s.sp) v], p := p, pc := pcAfter s 2 } ∧
      ∀ addr : Word, addr ≠ stackAddr s.sp → u.read addr = s.read addr
    gives .pha .pla s.a (nz s.p s.a) ∧ gives .phx .plx s.x (nz s.p s.x) ∧ gives .phy .ply s.y (nz s.p s.y) ∧
    gives .php .plp (s.p.image true) s.p

/-- JSR: pc is the operand, S is two less modulo 256, the high byte of pc + 2 is presented for storing at 0x0100 + S
and its low byte at the byte below, wrapping in page one; with no other bus master at work they stand there where
that is RAM, and every other byte of memory is as before. RTS: pc is the word of the two bytes above S in page one,
low byte first, plus one modulo 65536, and S is two more. No flag or other register changes. (R25, R26, R62, R233,
R234.) -/
def Obligations.SubroutineResult : Prop :=
  (∀ (s : State) (w : Word),
    let hi : Byte := BitVec.ofNat 8 ((s.pc.toNat + 2) % 65536 / 256)
    let lo : Byte := BitVec.ofNat 8 ((s.pc.toNat + 2) % 256)
    ∃ t, exec (.jsr w) s = .next t ∧
      t = { s with
        mem := t.mem, dma := t.dma
        bus := s.bus ++
          [writeAccess dataPlace (stackAddr s.sp) hi, writeAccess (dataPlace + 1) (stackAddr (s.sp - 1)) lo]
        sp := s.sp - 2, pc := w } ∧
      (s.dma = [] → t.dma = [] ∧ ∀ addr : Word, t.read addr =
        if kindAt s.platform addr ≠ .ram then s.read addr
        else if addr = stackAddr s.sp then hi
        else if addr = stackAddr (s.sp - 1) then lo
        else s.read addr)) ∧
  (∀ s : State, exec .rts s = .next { s with
    sp := s.sp + 2
    pc := BitVec.ofNat 16
      ((s.readAt dataPlace (stackAddr (s.sp + 1))).toNat +
        256 * (s.readAt (dataPlace + 1) (stackAddr (s.sp + 2))).toNat + 1) })

/-- With the stack bytes in RAM and no other bus master at work, an RTS executed in the state a JSR leaves goes on
three bytes after the JSR with S as before the call; every other register and flag is as before the call, and so is
every byte of memory but the two pushed. (R233, R234, R235.) -/
def Obligations.CallThenReturn : Prop :=
  ∀ (s : State) (w : Word), s.dma = [] → kindAt s.platform (stackAddr s.sp) = .ram →
    kindAt s.platform (stackAddr (s.sp - 1)) = .ram →
    ∃ t u, exec (.jsr w) s = .next t ∧ exec .rts t = .next u ∧
      u = { s with mem := u.mem, bus := t.bus, pc := pcAfter s 3 } ∧
      ∀ addr : Word, addr ≠ stackAddr s.sp → addr ≠ stackAddr (s.sp - 1) → u.read addr = s.read addr

/-- CLC, CLD, CLI, CLV, SEC, SED and SEI answer a next state in which the one flag has its value, NOP one in which
none changes; pc is past the instruction and nothing else has changed. (R260, R261, R262, R263, R264, R265, R266,
R267.) -/
def Obligations.FlagInstructionResult : Prop :=
  ∀ s : State, ∀ f ∈ flagForms s.p, exec f.1 s = .next { s with p := f.2, pc := pcAfter s 1 }

/-- Each unassigned op code answers a next state in which pc has advanced by RsvLen of the op code, which is 1, 2 or
3 and depends on nothing else, and nothing else has changed; as many bytes are fetched on the bus, the op code's
among them. RsvLen is a free constant (log 4). (R124, R125, R270.) -/
def Obligations.ReservedResult : Prop :=
  ∃ len : Byte → Nat, (∀ op, 1 ≤ len op ∧ len op ≤ 3) ∧
    ∀ s : State, ∀ i ∈ unassignedInstrs, exec i s = .next { s with pc := pcAfter s (len (opcode i)) } ∧
      (fetchAccesses i s).length = len (opcode i) ∧ opLength (opcode i) = len (opcode i)

/-- BRK answers a next state in which the high byte of pc + 2, its low byte and the status image with bit 4 set and
the old I and D are presented for storing at S, S - 1 and S - 2 of page one, S is three less, I is set, D is clear,
pc is the word at 0xFFFE, read after the pushes, and no other flag or register has changed. With no other bus master
at work the three bytes stand there where that is RAM, and every other byte of memory is as before. (R268, R305,
R306, R307, R308.) -/
def Obligations.BreakResult : Prop :=
  ∀ s : State, ∃ t, exec .brk s = .next t ∧
    t = { s with
      mem := t.mem, dma := t.dma, bus := s.bus ++ entryWrites s true (pcAfter s 2)
      sp := s.sp - 3, p := { s.p with i := true, d := false }
      pc := wordOf (t.readAt vectorPlace 0xFFFE) (t.readAt (vectorPlace + 1) 0xFFFF) } ∧
    (s.dma = [] → t.dma = [] ∧ EntryBytes s t true (pcAfter s 2))

/-- With the stack bytes in RAM and no other bus master at work: from the state an entry leaves, whatever its
vector, its bit 4 and its return address, RTI goes to the return address with every flag, I and D among them, every
register and S as before the entry. After BRK it goes on two bytes past the BRK. (R268, R269, R305, R311.) -/
def Obligations.EntryThenReturn : Prop :=
  ∀ s : State, s.dma = [] → (∀ k : Byte, k.toNat < 3 → kindAt s.platform (stackAddr (s.sp - k)) = .ram) →
    (∀ (vector ret : Word) (b : Bool), ∃ u, exec .rti (s.enterInterrupt vector b ret) = .next u ∧
      u = { s with mem := u.mem, bus := s.bus ++ entryWrites s b ret, pc := ret } ∧
      ∀ addr : Word, addr ≠ stackAddr s.sp → addr ≠ stackAddr (s.sp - 1) → addr ≠ stackAddr (s.sp - 2) →
        u.read addr = s.read addr) ∧
    (∃ t u, exec .brk s = .next t ∧ exec .rti t = .next u ∧ u = { s with mem := u.mem, bus := t.bus, pc := pcAfter s 2 })

/-- When nothing holds the CPU, no reset and no NMI is due, IRQ is low, I is 0 and nothing is scheduled, the step is
the interrupt entry: pc and the status image with bit 4 clear are pushed, S is three less, I is set, D is clear, pc
is the word at 0xFFFE, and no other register, flag or byte of memory changes; the level is not latched. That the
request is taken at this very boundary and the deferral mark cleared is the model's choice (log 9), as are the
recorded accesses and counts and the instruction register kept (logs 19, 20, 24). (R302, R305, R306, R308, R325.) -/
def Obligations.IrqTaken : Prop :=
  ∀ s : State, Live s → s.nmiPending = false → s.pins.irq = false → s.p.i = false → ∃ t, step s = .next t ∧
    t = { s with
      mem := t.mem, dma := [], sp := s.sp - 3, p := { s.p with i := true, d := false }
      pc := wordOf (t.readAt vectorPlace 0xFFFE) (t.readAt (vectorPlace + 1) 0xFFFF)
      irqShadow := false, tcu := 7, cycles := s.cycles + 7, draws := s.draws + 1
      bus := s.begin.fillCycles Config.dummyReads none 0 (2 * endPlace) 7 (entryWrites s false s.pc ++
        [readAccess vectorPlace 0xFFFE (t.readAt vectorPlace 0xFFFE),
         readAccess (vectorPlace + 1) 0xFFFF (t.readAt (vectorPlace + 1) 0xFFFF)]) } ∧
    EntryBytes s t false s.pc

/-- When nothing holds the CPU, no reset is due, an NMI edge is remembered, no IRQ competes with it and nothing is
scheduled, the step is the interrupt entry through 0xFFFA, whatever I is: pc and the status image with bit 4 clear
are pushed, I is set, D is clear, and the remembered edge is cleared; no other register, flag or byte of memory
changes. That the edge is taken at this very boundary and the deferral mark cleared is the model's choice (log 9),
as are the recorded accesses and counts and the instruction register kept (logs 19, 20, 24). (R42, R303, R305, R306,
R308, R325.) -/
def Obligations.NmiTaken : Prop :=
  ∀ s : State, Live s → s.nmiPending = true → (s.pins.irq = true ∨ s.p.i = true) → ∃ t, step s = .next t ∧
    t = { s with
      mem := t.mem, dma := [], sp := s.sp - 3, p := { s.p with i := true, d := false }
      pc := wordOf (t.readAt vectorPlace 0xFFFA) (t.readAt (vectorPlace + 1) 0xFFFB)
      nmiPending := false, irqShadow := false, tcu := 7, cycles := s.cycles + 7, draws := s.draws + 1
      bus := s.begin.fillCycles Config.dummyReads none 0 (2 * endPlace) 7 (entryWrites s false s.pc ++
        [readAccess vectorPlace 0xFFFA (t.readAt vectorPlace 0xFFFA),
         readAccess (vectorPlace + 1) 0xFFFB (t.readAt (vectorPlace + 1) 0xFFFB)]) } ∧
    EntryBytes s t false s.pc

/-- When both are due, the step is the NMI entry, after which I is set and holds the IRQ off, or the IRQ entry,
after which the NMI is still remembered and the very next step is its entry. The order between them is a free
constant (log 7); that either is taken at this very boundary is the model's choice (log 9). (R302, R303, R309.) -/
def Obligations.NmiAndIrqTogether : Prop :=
  ∀ s : State, Live s → s.nmiPending = true → s.pins.irq = false → s.p.i = false →
    (step s = .next s.begin.takeNmi ∧ s.begin.takeNmi.p.i = true ∧ s.begin.takeNmi.nmiPending = false) ∨
    (step s = .next s.begin.takeIrq ∧ s.begin.takeIrq.nmiPending = true ∧
      step s.begin.takeIrq = .next s.begin.takeIrq.begin.takeNmi)

/-- With IRQ low, I clear and no NMI due, at a boundary at which the environment defers: the IRQ is taken all the
same unless the last instruction was a CLI or PLP that cleared I; after one, the step runs one more instruction, and
leaves no mark, so that whatever the environment does the IRQ is taken at the next boundary if I is still clear. A
step sets the mark only if it ran a CLI or PLP and I went from 1 to 0. That the deferral is the environment's and
how it is marked is the model's choice (log 9). (R304, R302.) -/
def Obligations.IrqDeferral : Prop :=
  (∀ s : State, Ready s → s.schedule = [deferral] → s.nmiPending = false → s.pins.irq = false → s.p.i = false →
    (s.irqShadow = false → step s = .next s.begin.takeIrq) ∧
    (s.irqShadow = true → ∃ t u, exec s.begin.fetch s.begin = .next t ∧ step s = .next u ∧
      u = { t with
        ir := u.ir, tcu := u.tcu, cycles := u.cycles, bus := u.bus, irqShadow := false } ∧
      (u.p.i = false → step { u with schedule := [deferral] } =
        .next ({ u with schedule := [deferral] } : State).begin.takeIrq))) ∧
  (∀ s t : State, Live s → step s = .next t → t.irqShadow = true →
    (s.begin.fetch = .cli ∨ s.begin.fetch = .plp) ∧ s.p.i = true ∧ t.p.i = false)

/-- An NMI event remembers an edge exactly when the pin falls; an SO event sets V exactly when the pin falls,
whatever holds the CPU (log 29); IRQ and RDY events change the level of the pin; a BE event changes it on a device
that has the pin and nothing on one that has not; RES going low drops what was known of an earlier pulse, RES going
high after it was low for a step requests the reset sequence, and an event that gives the level RES has already
changes nothing; starting the clock or stopping it high changes its state alone; a clock low for too long marks the
state as lost and forgets any RES pulse, while memory, the pins, the schedule and the counts are kept and the
registers are free (logs 14, 15); a byte written by another bus master is presented to the platform. Nothing else
changes. (R42, R43, R77, R302, R303, R315, R317, R319, R350, R357.) -/
def Obligations.PinEvents : Prop :=
  ∀ (s : State) (high : Bool) (addr : Word) (v : Byte),
    s.onPin (.nmi high) = .ok { s with
      pins := { s.pins with nmi := high }, nmiPending := s.nmiPending || (s.pins.nmi && !high) } ∧
    s.onPin (.so high) = .ok { s with
      pins := { s.pins with so := high }, p := { s.p with v := s.p.v || (s.pins.so && !high) } } ∧
    s.onPin (.irq high) = .ok { s with pins := { s.pins with irq := high } } ∧
    s.onPin (.rdy high) = .ok { s with pins := { s.pins with rdy := high } } ∧
    s.onPin (.be high) = .ok { s with
      pins := { s.pins with be := if Config.device.hasBusEnable then high else s.pins.be } } ∧
    (s.pins.res = high → s.onPin (.res high) = .ok s) ∧
    (s.pins.res = true → s.onPin (.res false) =
      .ok { s with pins := { s.pins with res := false }, resHeld := false, resPending := false }) ∧
    (s.pins.res = false → s.resHeld = true → s.onPin (.res true) =
      .ok { s with pins := { s.pins with res := true }, resHeld := false, resPending := true }) ∧
    s.onPin (.clock .running) = .ok { s with pins := { s.pins with clock := .running } } ∧
    s.onPin (.clock .heldHigh) = .ok { s with pins := { s.pins with clock := .heldHigh } } ∧
    (∃ t, s.onPin (.clock .heldLow) = .ok t ∧
      t = { s with
        pins := { s.pins with clock := .heldLow }, stateLost := true
        resPending := false, resHeld := false, irqShadow := false
        a := t.a, x := t.x, y := t.y, sp := t.sp, pc := t.pc, p := t.p
        ir := t.ir, tcu := t.tcu, nmiPending := t.nmiPending }) ∧
    s.onPin (.busWrite addr v) = .ok (s.write addr v)

/-- While the clock has not stood low too long and no state is lost: with RES high and RDY low or the clock stopped
in the high state, a step changes no register, flag or byte of memory, whatever interrupts are due; with RES low a
step only notes that the clock has run, if it has. The step empties the record and takes a draw. That RES and RDY go
before everything else, and that one step stands for the two cycles of RES, is the model's choice (logs 3, 12, 14).
(R302, R314, R319, R350.) -/
def Obligations.Suspended : Prop :=
  ∀ s : State, s.schedule = [] → s.pins.clock ≠ .heldLow → s.stateLost = false →
    (s.pins.res = true → (s.pins.rdy = false ∨ s.pins.clock = .heldHigh) →
      step s = .next { s with dma := [], bus := [], draws := s.draws + 1 }) ∧
    (s.pins.res = false → step s = .next { s with
      resHeld := s.resHeld || s.pins.clock == .running, dma := [], bus := [], draws := s.draws + 1 })

/-- With a RES edge seen, the step is the reset sequence, whatever interrupts are due: I is set, D is clear, no NMI
is pending, pc is the word at 0xFFFC, every byte of memory, every pin and the schedule are as before. The registers
and flags the spec leaves unspecified are free (logs 3, 24). (R10, R44, R309, R351, R352.) -/
def Obligations.ResetTaken : Prop :=
  ∀ s : State, s.schedule = [] → s.pins.res = true → s.pins.clock = .running → s.pins.rdy = true → s.pins.be = true →
    s.resPending = true → ∃ t, step s = .next t ∧ SameMemory s t ∧
      t = { s with
        a := t.a, x := t.x, y := t.y, sp := t.sp, p := { t.p with i := true, d := false }
        pc := wordOf (t.readAt vectorPlace 0xFFFC) (t.readAt (vectorPlace + 1) 0xFFFD)
        nmiPending := false, resPending := false, resHeld := false, irqShadow := false, stateLost := false
        ir := t.ir, tcu := t.tcu, cycles := t.cycles, bus := t.bus, dma := [], draws := s.draws + 1 }

/-- Whatever the machine was doing, with the pins inactive, a schedule that pulls RES low at one boundary and lets
it go high at the next brings the machine in two steps to I set, D clear, no NMI pending and pc at the word at
0xFFFC, with every byte of memory as before and nothing of the pulse left. That one step of the machine stands for
the two cycles RES must be low is the model's choice (log 14). (R42, R350, R351.) -/
def Obligations.ResetPulseRestarts : Prop :=
  ∀ s : State, s.pins = Pins.inactive → s.schedule = resetPulse → ∃ t, Host.Core.run Sys2Proof.core 2 s = .next t ∧
    t.p.i = true ∧ t.p.d = false ∧ t.nmiPending = false ∧
    t.pc = wordOf (t.readAt vectorPlace 0xFFFC) (t.readAt (vectorPlace + 1) 0xFFFD) ∧
    SameMemory s t ∧ t.Quiet

/-- When a step would go from s to t, the same step with SO falling within it differs at most in the level of SO and
in V: not at all if the pin was low already, and otherwise V is 1 unless the instruction it runs writes V itself,
when V is free (log 10). The same step with RES falling within it leaves RES low, no reset due and no pulse
measured, memory as it was at every address the step was not writing, and a record that is the beginning of that of
t as far as addresses and directions go; it takes some of the cycles of t and, where discarded reads are recorded,
has one access for each; every register and flag is free, and so is every byte it was writing (log 11). (R42, R61,
R315, R350.) -/
def Obligations.EdgesWithinStep : Prop :=
  ∀ s t : State, Live s → step s = .next t →
    (∃ u, step { s with schedule := [soEdge] } = .next u ∧
      u = { t with pins := { t.pins with so := false }, p := { t.p with v := u.p.v } } ∧
      (s.pins.so = false → u = t) ∧
      (s.pins.so = true → (NoInterrupt s → writesOverflow s.begin.fetch = false) → u.p.v = true)) ∧
    (∃ u, step { s with schedule := [resEdge] } = .next u ∧
      u.pins = { t.pins with res := false } ∧ u.resPending = false ∧ u.resHeld = false ∧ u.schedule = [] ∧
      u.stateLost = false ∧ u.platform = s.platform ∧
      (∀ addr : Word, (∀ access ∈ t.bus, access.write = true → access.addr ≠ addr) → u.read addr = s.read addr) ∧
      (u.bus.map fun access => (access.addr, access.write)) <+: (t.bus.map fun access => (access.addr, access.write)) ∧
      u.cycles = s.cycles + u.tcu ∧ u.tcu ≤ t.tcu ∧
      (if Config.dummyReads then u.bus.length = u.tcu ∧ t.bus.length = t.tcu else u.bus.length ≤ u.tcu))

/-- BE low while the CPU runs, RES let go high before it has been low for a step, and running on without a reset
after the clock stood low too long are refused, each under its own name. (Logs 13, 14, 15.) (R317, R350, R357.) -/
def Obligations.UnsupportedEnvironments : Prop :=
  (∀ s : State, s.schedule = [] → s.pins.res = true → s.pins.clock = .running → s.pins.rdy = true → s.pins.be = false →
    step s = .refused .busDisabled) ∧
  (∀ s : State, s.pins.res = false → s.resHeld = false → s.onPin (.res true) = .error .resetPulseTooShort) ∧
  (∀ s : State, s.schedule = [] → s.pins.res = true → s.pins.clock = .running → s.pins.rdy = true → s.pins.be = true →
    s.resPending = false → s.stateLost = true → step s = .refused .stateLost)

/-- Every instruction answers a next state from every state; no step faults; a step is refused only for an
environment outside the supported ones. That the unassigned op codes and decimal operands that are not BCD run
rather than be refused is the model's choice (logs 4, 6), and so are the three environments it refuses (logs 13, 14,
15). (R301, R317, R320, R350, R357.) -/
def Obligations.NothingFaults : Prop :=
  (∀ (i : Instr) (s : State), ∃ t, exec i s = .next t) ∧
  (∀ (s : State) (f : Fault), step s ≠ .fault f) ∧
  (∀ (s : State) (r : Refusal), step s = .refused r → r = .busDisabled ∨ r = .resetPulseTooShort ∨ r = .stateLost)

/-- A step from any state in which the environment does nothing and nothing is pending answers a next state in which
that is so again and time has not gone back; so every number of steps does: whatever bytes the program holds, no run
of it ever stops. That it runs through unassigned op codes and decimal operands that are not BCD is the model's
choice (logs 4, 6). (R10, R124, R301, R309.) -/
def Obligations.QuietRuns : Prop :=
  (∀ s : State, s.Quiet → ∃ t, step s = .next t ∧ t.Quiet ∧ s.cycles ≤ t.cycles ∧
    t.cycles = s.cycles + cyclesOf s.begin.fetch s.begin) ∧
  (∀ s : State, s.Quiet → ∀ k : Nat, ∃ t, Host.Core.run Sys2Proof.core k s = .next t ∧ t.Quiet ∧ s.cycles ≤ t.cycles)

/-- A read of RAM or ROM gives the byte of memory there, as the other bus masters have left it; what a device
supplies, or an address where nothing responds, is free and depends on the draw, the place of the access and the
address alone. A write to RAM stores the byte; a write to ROM, a device or nothing changes no byte of memory; each
is on the bus alike. An address lies in the first region that holds it and is RAM where none does. The kinds, and
that what a device supplies is free, are the model's choice of the parameter Platform (log 1). (R6, R61, R62, R68.)
-/
def Obligations.PlatformAccess : Prop :=
  ∀ (s : State) (place : Nat) (addr : Word) (ml : Bool) (v : Byte),
    (kindAt s.platform addr = .ram ∨ kindAt s.platform addr = .rom → s.readAt place addr = (s.upTo place).read addr) ∧
    (∃ supplied : Nat → Nat → Word → Byte, ∀ t : State, ∀ place' addr',
      kindAt t.platform addr' = .device ∨ kindAt t.platform addr' = .nothing →
        t.readAt place' addr' = supplied t.draws place' addr') ∧
    (kindAt s.platform addr = .ram → (s.writeAt place ml addr v).read addr = v) ∧
    (kindAt s.platform addr ≠ .ram → (s.writeAt place ml addr v).mem = (s.upTo place).mem) ∧
    (s.writeAt place ml addr v).bus = s.bus ++ [{ writeAccess place addr v with ml := ml }] ∧
    (∀ (r : Region) (rest : List Region), kindAt (r :: rest) addr =
      if r.first.toNat ≤ addr.toNat ∧ addr.toNat ≤ r.last.toNat then r.kind else kindAt rest addr) ∧
    kindAt [] addr = .ram

/-- With no other bus master at work, no place of the step changes anything. With one that writes a byte of RAM
before a given place of the step: INC of that byte works on the new byte if the write comes before its read,
overwrites the new byte if it comes between the read and the write, and leaves it if it comes after; JMP (ABS) takes
the new high byte of its pointer if the write comes before the second pointer read, and the old one if not, whatever
the low byte. The places are the model's own (log 18). (R64, R72, R77.) -/
def Obligations.OtherMasters : Prop :=
  (∀ (s : State) (place : Nat), s.dma = [] → s.upTo place = s) ∧
  (∀ (s : State) (place : Fin 12) (w : Word) (v : Byte), s.dma = [⟨place, w, v⟩] → kindAt s.platform w = .ram →
    ∃ t, exec (.incAbs w) s = .next t ∧
      t.finish.read w =
        if place.val ≤ dataPlace then v + 1 else if place.val ≤ writeBackPlace then s.read w + 1 else v) ∧
  (∀ (s : State) (place : Fin 12) (w : Word) (v : Byte), s.dma = [⟨place, w + 1, v⟩] → kindAt s.platform w = .ram →
    kindAt s.platform (w + 1) = .ram →
    ∃ t, exec (.jmpInd w) s = .next t ∧
      t.pc = wordOf (s.read w) (if place.val ≤ pointerPlace + 1 then v else s.read (w + 1)))

/-- For every instruction and state, with nothing recorded yet and whatever other bus masters write within the step,
with discarded reads recorded or not: memory afterwards is what the recorded writes and the other masters' make of
the old memory, each at its place; with no other master at work, the old memory with the recorded writes presented
to the platform in their order. Every recorded read of RAM or ROM, a discarded one too, gives the byte that the
writes before it leave there. Every form of STA, STX, STY and STZ makes exactly one write, to its effective address,
and no read of it but where a fetch, a pointer read or the re-read of a page crossing falls on it. That the
discarded reads at free addresses keep away from it too is the model's choice, following R144 to R147 where R76
leaves the address open (log 19). What the record lists and the places are its choice as well (logs 18, 19), and
what the platform makes of a write that of log 1. (R61, R62, R70, R77.) -/
def Obligations.BusWritesExplainMemory : Prop :=
  ∀ (i : Instr) (s t : State) (dummyReads : Bool), s.bus = [] → exec i s = .next t →
    let all := recordedAccesses dummyReads i s t
    t.finish.mem = (s.replay all).finish.mem ∧
    (s.dma = [] → t.mem = Memory.applyWrites s.platform s.mem all) ∧
    (∀ before access after, all = before ++ access :: after → access.write = false →
      (kindAt s.platform access.addr = .ram ∨ kindAt s.platform access.addr = .rom) →
      access.value = ((s.replay before).upTo access.place).read access.addr) ∧
    (∀ (b : Byte) (w : Word), ∀ f ∈ staForms s b w ++ stxForms s b w ++ styForms s b w ++ stzForms s b w, i = f.instr →
      ((all.filter fun access => access.write).map fun access => access.addr) = [f.ea] ∧
      ∀ access ∈ all, access.write = false → access.addr = f.ea →
        access ∈ fetchAccesses i s ++ pointerAccesses i s ++ crossingAccesses dummyReads i s)

/-- Among the bus accesses of any instruction, with nothing recorded yet, exactly one carries SYNC: the first, a
read of the op code at pc. The accesses the rules list begin with the op code and the operand bytes at ascending
addresses, and stand in their order among those recorded; every other is a read without a label. Without discarded
reads there is no other; with them, every instruction makes as many accesses as it takes cycles. What is listed, and
that the addresses and moments of the others are free, is the model's choice (log 19); how many bytes an unassigned
op code fetches is the free RsvLen, and how many cycles it takes RsvCycles, never fewer (log 4). (R6, R61, R72, R74,
R75, R76, R102, R316.) -/
def Obligations.FetchLabels : Prop :=
  ∀ (i : Instr) (s t : State) (dummyReads : Bool), s.bus = [] → exec i s = .next t →
    let listed := listedAccesses dummyReads i s t
    let all := recordedAccesses dummyReads i s t
    (∃ rest, all = { readAccess fetchPlace s.pc (s.readAt fetchPlace s.pc) with sync := true } :: rest ∧
      ∀ access ∈ rest, access.sync = false) ∧
    (listed.take (encode i).length).map (fun access => access.addr) =
      ((List.range (encode i).length).map fun k => s.pc + BitVec.ofNat 16 k) ∧
    listed.Sublist all ∧
    (∀ access ∈ all, access ∈ listed ∨ (access.write = false ∧ access.ml = false)) ∧
    (dummyReads = false → all = listed) ∧
    (dummyReads = true → all.length = cyclesOf i s) ∧
    busAccesses i s t = recordedAccesses Config.dummyReads i s t

/-- The memory forms of ASL, DEC, INC, LSR, ROL, ROR, TRB and TSB, and RMBn and SMBn, end with a read of their
effective address, a second read of it where discarded reads are recorded, and one write to it, with ML in the
second read and the write, for RMBn and SMBn as the free constant has it; every access before them is a read without
ML. The record keeps the label on a device without the pin too, and where the reads stand whose address the spec
does not give is its choice (log 19). (R6, R72, R73, R200, R201, R318.) -/
def Obligations.ModifyAccesses : Prop :=
  ∀ (s t : State) (b : Byte) (w : Word) (n : Fin 8) (dummyReads : Bool), s.bus = [] →
    let pattern (i : Instr) (ea : Word) (ml : Bool) : Prop := exec i s = .next t → ∃ before v,
      recordedAccesses dummyReads i s t = before ++ readAccess dataPlace ea (s.readAt dataPlace ea) ::
        ((if dummyReads then [{ readAccess modifyPlace ea (s.readAt modifyPlace ea) with ml := ml }] else []) ++
          [{ writeAccess writeBackPlace ea v with ml := ml }]) ∧
      (∀ access ∈ before, access.write = false ∧ access.ml = false) ∧
      (kindAt s.platform ea = .ram → t.read ea = v)
    (∀ f ∈ lockedForms s b w, pattern f.instr f.ea true) ∧
    pattern (rmb n b) (eaZp b) Config.mlDuringBitOps ∧ pattern (smb n b) (eaZp b) Config.mlDuringBitOps ∧
    (∀ i, busAccesses i s t = recordedAccesses Config.dummyReads i s t)

/-- A conditional branch takes 2 cycles, 3 if it occurs to the page of the next instruction, 4 if to another, BRA 3
or 4, BBRn and BBSn 5, 6 or 7; every form of ADC and SBC takes one more in decimal mode; every form of ADC, AND,
CMP, EOR, LDA, ORA and SBC, and every indexed form of LDX, LDY and BIT, takes one more when the index carries into
the high byte of the address, an indexed store never; JMP (ABS) takes one more when the operand ends in FF. Which of
two stated readings gives the counts is the model's choice (log 20). (R74, R220, R227, R230, R231, R232, R360.) -/
def Obligations.CycleCounts : Prop :=
  ∀ (s : State) (b rel : Byte) (w : Word) (n : Fin 8),
    let samePage (a c : Word) : Prop := a.toNat / 256 = c.toNat / 256
    (∀ f ∈ flagBranches s, cyclesOf (f.instr rel) s =
      if f.cond then (if samePage (pcAfter s 2) (branchTarget s 2 rel) then 3 else 4) else 2) ∧
    cyclesOf (.bra rel) s = (if samePage (pcAfter s 2) (branchTarget s 2 rel) then 3 else 4) ∧
    cyclesOf (bbr n b rel) s = (if (s.datum (eaZp b)).getLsbD n = false then
      (if samePage (pcAfter s 3) (branchTarget s 3 rel) then 6 else 7) else 5) ∧
    cyclesOf (bbs n b rel) s = (if (s.datum (eaZp b)).getLsbD n = true then
      (if samePage (pcAfter s 3) (branchTarget s 3 rel) then 6 else 7) else 5) ∧
    (∀ f ∈ adcCycles s b w ++ sbcCycles s b w, cyclesOf f.instr s = f.cycles + s.p.d.toNat) ∧
    (∀ f ∈ andCycles s b w ++ cmpCycles s b w ++ eorCycles s b w ++ ldaCycles s b w ++ oraCycles s b w ++
      indexedLoadCycles s b w ++ indexedStoreCycles b w, cyclesOf f.instr s = f.cycles) ∧
    cyclesOf (.jmpInd w) s = (if w.toNat % 256 = 255 then 7 else 6)

/-- D changes only in SED, CLD, PLP, RTI and BRK; I only in SEI, CLI, PLP, RTI and BRK; V only in ADC, SBC, the
memory forms of BIT, CLV, PLP and RTI; S only in TXS, the pushes and pulls, JSR, RTS, BRK and RTI. (R23, R33, R34,
R37, R202.) -/
def Obligations.WhoWrites : Prop :=
  ∀ (i : Instr) (s t : State), exec i s = .next t →
    (t.p.d ≠ s.p.d → i ∈ [Instr.sed, .cld, .plp, .rti, .brk]) ∧
    (t.p.i ≠ s.p.i → i ∈ [Instr.sei, .cli, .plp, .rti, .brk]) ∧
    (t.p.v ≠ s.p.v → writesOverflow i = true) ∧
    (t.sp ≠ s.sp → i ∈ [Instr.txs, .pha, .php, .phx, .phy, .pla, .plp, .plx, .ply, .rts, .brk, .rti] ∨
      ∃ w, i = .jsr w)

/-- Whatever the instruction, every pin level, pending request, scheduled event, count and region of the platform is
as before: what it changes is among A, X, Y, S, pc, the flags and memory, and it adds its writes to the record and
lets other bus masters go on. An instruction that begins with none of them at work ends with none. (R10, R42, R77,
R313.) -/
def Obligations.ExecFootprint : Prop :=
  ∀ (i : Instr) (s t : State), exec i s = .next t →
    t = { s with
      a := t.a, x := t.x, y := t.y, sp := t.sp, pc := t.pc, p := t.p, mem := t.mem, dma := t.dma, bus := t.bus } ∧
    s.bus <+: t.bus ∧ t.dma <:+ s.dma
end

