-- ==== Sys2Proof/Laws/Memory.lean ====
section
/-! SUPPORT. What the memory operations do: read after write, and the canonical form every operation keeps. -/

namespace Sys2Proof.Machine

theorem Memory.read_nil (addr : Nat) : Memory.read [] addr = Memory.fill := rfl

theorem Memory.read_cons (k : Nat) (v : Byte) (rest : Memory) (addr : Nat) :
    Memory.read ((k, v) :: rest) addr = if k = addr then v else Memory.read rest addr := rfl

theorem Memory.read_of_not_listed (m : Memory) (addr : Nat) (h : ∀ c ∈ m, c.1 ≠ addr) :
    m.read addr = Memory.fill := by
  induction m with
  | nil => rfl
  | cons c rest ih =>
    obtain ⟨k, w⟩ := c
    rw [Memory.read_cons, if_neg (h (k, w) (by simp))]
    exact ih fun d hd => h d (by simp [hd])

theorem Memory.mem_erase (m : Memory) (addr : Nat) (c : Host.Cell) :
    c ∈ m.erase addr ↔ c ∈ m ∧ c.1 ≠ addr := by
  simp [Memory.erase]

theorem Memory.read_erase (m : Memory) (addr other : Nat) :
    (m.erase addr).read other = if addr = other then Memory.fill else m.read other := by
  induction m with
  | nil => simp [Memory.erase, Memory.read_nil]
  | cons c rest ih =>
    obtain ⟨k, w⟩ := c
    have hcons : Memory.erase ((k, w) :: rest) addr =
        if k = addr then Memory.erase rest addr else (k, w) :: Memory.erase rest addr := by
      by_cases hk : k = addr <;> simp [Memory.erase, hk]
    rw [hcons]
    by_cases hk : k = addr
    · subst hk
      rw [if_pos rfl, ih, Memory.read_cons]
      by_cases h : k = other <;> simp [h]
    · rw [if_neg hk, Memory.read_cons, Memory.read_cons, ih]
      by_cases ho : k = other
      · subst ho; simp [Ne.symm hk]
      · simp [ho]

theorem Memory.mem_insert (m : Memory) (addr : Nat) (v : Byte) (c : Host.Cell) :
    c ∈ m.insert addr v ↔ c = (addr, v) ∨ c ∈ m := by
  induction m with
  | nil => simp [Memory.insert]
  | cons d rest ih =>
    obtain ⟨k, w⟩ := d
    by_cases h : addr < k
    · simp [Memory.insert, h]
    · simp only [Memory.insert, if_neg h, List.mem_cons, ih]; tauto

theorem Memory.read_insert (m : Memory) (addr : Nat) (v : Byte) (h : ∀ c ∈ m, c.1 ≠ addr) (other : Nat) :
    (m.insert addr v).read other = if addr = other then v else m.read other := by
  induction m with
  | nil => simp [Memory.insert, Memory.read_cons]
  | cons d rest ih =>
    obtain ⟨k, w⟩ := d
    have hk : k ≠ addr := h (k, w) (by simp)
    by_cases hlt : addr < k
    · simp [Memory.insert, hlt, Memory.read_cons]
    · rw [Memory.insert, if_neg hlt, Memory.read_cons, Memory.read_cons, ih fun c hc => h c (by simp [hc])]
      by_cases ho : k = other
      · subst ho; simp [Ne.symm hk]
      · simp [ho]

/-- A read after a write: the value written at its address, what was there before at every other (R62, R70 (c)). -/
theorem Memory.read_write (m : Memory) (addr : Nat) (v : Byte) (other : Nat) :
    (m.write addr v).read other = if addr = other then v else m.read other := by
  unfold Memory.write
  split
  · next h => rw [Memory.read_erase, h]
  · rw [Memory.read_insert _ _ _ (fun c hc => ((Memory.mem_erase ..).mp hc).2), Memory.read_erase]
    by_cases h : addr = other <;> simp [h]

theorem Memory.wf_nil : Memory.wf [] := by simp [Memory.wf]

theorem Memory.wf_erase {m : Memory} (addr : Nat) (h : Memory.wf m) : Memory.wf (m.erase addr) :=
  ⟨h.1.filter _, fun c hc => h.2 c ((Memory.mem_erase ..).mp hc).1⟩

theorem Memory.wf_insert {m : Memory} {addr : Nat} {v : Byte} (h : Memory.wf m) (ha : addr < 65536)
    (hv : v ≠ Memory.fill) (hn : ∀ c ∈ m, c.1 ≠ addr) : Memory.wf (m.insert addr v) := by
  refine ⟨?_, fun c hc => ?_⟩
  · have hp := h.1
    clear h
    induction m with
    | nil => simp [Memory.insert]
    | cons d rest ih =>
      obtain ⟨k, w⟩ := d
      have hk : k ≠ addr := hn (k, w) (by simp)
      rw [List.pairwise_cons] at hp
      by_cases hlt : addr < k
      · rw [Memory.insert, if_pos hlt, List.pairwise_cons, List.pairwise_cons]
        refine ⟨fun c hc => ?_, hp⟩
        rcases List.mem_cons.mp hc with rfl | hc
        · exact hlt
        · exact hlt.trans (hp.1 c hc)
      · rw [Memory.insert, if_neg hlt, List.pairwise_cons]
        refine ⟨fun c hc => ?_, ih (fun c hc => hn c (by simp [hc])) hp.2⟩
        rcases (Memory.mem_insert ..).mp hc with rfl | hc
        · show k < addr; omega
        · exact hp.1 c hc
  · rcases (Memory.mem_insert ..).mp hc with rfl | hc
    · exact ⟨ha, hv⟩
    · exact h.2 c hc

/-- A write inside the address space keeps the canonical form. -/
theorem Memory.wf_write {m : Memory} {addr : Nat} (v : Byte) (h : Memory.wf m) (ha : addr < 65536) :
    Memory.wf (m.write addr v) := by
  unfold Memory.write
  split
  · exact Memory.wf_erase addr h
  · next hv => exact Memory.wf_insert (Memory.wf_erase addr h) ha hv fun c hc => ((Memory.mem_erase ..).mp hc).2

/-- A byte presented to the platform: RAM takes it, nothing else changes (R62). -/
theorem Memory.read_store (platform : List Region) (m : Memory) (addr : Word) (v : Byte) (other : Word) :
    (Memory.store platform m addr v).read other.toNat =
      if addr = other ∧ kindAt platform other = .ram then v else m.read other.toNat := by
  unfold Memory.store
  by_cases hk : addr = other
  · subst hk
    split <;> simp_all [Memory.read_write]
  · split <;> simp_all [Memory.read_write, BitVec.toNat_inj]

/-- What the platform stores keeps the canonical form. -/
theorem Memory.wf_store {m : Memory} (platform : List Region) (addr : Word) (v : Byte) (h : Memory.wf m) :
    Memory.wf (Memory.store platform m addr v) := by
  unfold Memory.store
  split
  · exact Memory.wf_write v h addr.isLt
  · exact h

/-- What other bus masters store keeps the canonical form (R77). -/
theorem Memory.wf_masters {m : Memory} (platform : List Region) (writes : List MasterWrite) (h : Memory.wf m) :
    Memory.wf (writes.foldl (fun m w => Memory.store platform m w.addr w.value) m) := by
  induction writes generalizing m with
  | nil => exact h
  | cons w rest ih => exact ih (Memory.wf_store platform w.addr w.value h)

/-- The memory of the state after reset is in canonical form. -/
theorem reset_mem_wf : Memory.wf State.reset.mem := Memory.wf_nil

end Sys2Proof.Machine
end

