-- ==== Sys2Proof/Laws/State.lean ====
section
/-! SUPPORT. One lemma per field per state update, so that no later proof unfolds a record update. -/

namespace Sys2Proof.Machine

variable (s : State) (place : Nat) (ml : Bool) (addr : Word) (v : Byte) (w : Word) (len : Nat)

@[simp] theorem State.write_a : (s.write addr v).a = s.a := rfl
@[simp] theorem State.write_x : (s.write addr v).x = s.x := rfl
@[simp] theorem State.write_y : (s.write addr v).y = s.y := rfl
@[simp] theorem State.write_sp : (s.write addr v).sp = s.sp := rfl
@[simp] theorem State.write_pc : (s.write addr v).pc = s.pc := rfl
@[simp] theorem State.write_p : (s.write addr v).p = s.p := rfl
@[simp] theorem State.write_mem : (s.write addr v).mem = Memory.store s.platform s.mem addr v := rfl
@[simp] theorem State.write_platform : (s.write addr v).platform = s.platform := rfl
@[simp] theorem State.write_nmiPending : (s.write addr v).nmiPending = s.nmiPending := rfl
@[simp] theorem State.write_resPending : (s.write addr v).resPending = s.resPending := rfl
@[simp] theorem State.write_resHeld : (s.write addr v).resHeld = s.resHeld := rfl
@[simp] theorem State.write_irqShadow : (s.write addr v).irqShadow = s.irqShadow := rfl
@[simp] theorem State.write_stateLost : (s.write addr v).stateLost = s.stateLost := rfl
@[simp] theorem State.write_pins : (s.write addr v).pins = s.pins := rfl
@[simp] theorem State.write_schedule : (s.write addr v).schedule = s.schedule := rfl
@[simp] theorem State.write_ir : (s.write addr v).ir = s.ir := rfl
@[simp] theorem State.write_tcu : (s.write addr v).tcu = s.tcu := rfl
@[simp] theorem State.write_cycles : (s.write addr v).cycles = s.cycles := rfl
@[simp] theorem State.write_bus : (s.write addr v).bus = s.bus := rfl
@[simp] theorem State.write_dma : (s.write addr v).dma = s.dma := rfl
@[simp] theorem State.write_draws : (s.write addr v).draws = s.draws := rfl

@[simp] theorem State.upTo_a : (s.upTo place).a = s.a := rfl
@[simp] theorem State.upTo_x : (s.upTo place).x = s.x := rfl
@[simp] theorem State.upTo_y : (s.upTo place).y = s.y := rfl
@[simp] theorem State.upTo_sp : (s.upTo place).sp = s.sp := rfl
@[simp] theorem State.upTo_pc : (s.upTo place).pc = s.pc := rfl
@[simp] theorem State.upTo_p : (s.upTo place).p = s.p := rfl
theorem State.upTo_mem : (s.upTo place).mem =
    (s.dma.takeWhile fun w => w.before.val ≤ place).foldl (fun m w => Memory.store s.platform m w.addr w.value)
      s.mem := rfl
@[simp] theorem State.upTo_platform : (s.upTo place).platform = s.platform := rfl
@[simp] theorem State.upTo_nmiPending : (s.upTo place).nmiPending = s.nmiPending := rfl
@[simp] theorem State.upTo_resPending : (s.upTo place).resPending = s.resPending := rfl
@[simp] theorem State.upTo_resHeld : (s.upTo place).resHeld = s.resHeld := rfl
@[simp] theorem State.upTo_irqShadow : (s.upTo place).irqShadow = s.irqShadow := rfl
@[simp] theorem State.upTo_stateLost : (s.upTo place).stateLost = s.stateLost := rfl
@[simp] theorem State.upTo_pins : (s.upTo place).pins = s.pins := rfl
@[simp] theorem State.upTo_schedule : (s.upTo place).schedule = s.schedule := rfl
@[simp] theorem State.upTo_ir : (s.upTo place).ir = s.ir := rfl
@[simp] theorem State.upTo_tcu : (s.upTo place).tcu = s.tcu := rfl
@[simp] theorem State.upTo_cycles : (s.upTo place).cycles = s.cycles := rfl
@[simp] theorem State.upTo_bus : (s.upTo place).bus = s.bus := rfl
theorem State.upTo_dma : (s.upTo place).dma = s.dma.dropWhile fun w => w.before.val ≤ place := rfl
@[simp] theorem State.upTo_draws : (s.upTo place).draws = s.draws := rfl

@[simp] theorem State.writeAt_a : (s.writeAt place ml addr v).a = s.a := rfl
@[simp] theorem State.writeAt_x : (s.writeAt place ml addr v).x = s.x := rfl
@[simp] theorem State.writeAt_y : (s.writeAt place ml addr v).y = s.y := rfl
@[simp] theorem State.writeAt_sp : (s.writeAt place ml addr v).sp = s.sp := rfl
@[simp] theorem State.writeAt_pc : (s.writeAt place ml addr v).pc = s.pc := rfl
@[simp] theorem State.writeAt_p : (s.writeAt place ml addr v).p = s.p := rfl
@[simp] theorem State.writeAt_mem : (s.writeAt place ml addr v).mem =
    Memory.store s.platform (s.upTo place).mem addr v := rfl
@[simp] theorem State.writeAt_platform : (s.writeAt place ml addr v).platform = s.platform := rfl
@[simp] theorem State.writeAt_nmiPending : (s.writeAt place ml addr v).nmiPending = s.nmiPending := rfl
@[simp] theorem State.writeAt_resPending : (s.writeAt place ml addr v).resPending = s.resPending := rfl
@[simp] theorem State.writeAt_resHeld : (s.writeAt place ml addr v).resHeld = s.resHeld := rfl
@[simp] theorem State.writeAt_irqShadow : (s.writeAt place ml addr v).irqShadow = s.irqShadow := rfl
@[simp] theorem State.writeAt_stateLost : (s.writeAt place ml addr v).stateLost = s.stateLost := rfl
@[simp] theorem State.writeAt_pins : (s.writeAt place ml addr v).pins = s.pins := rfl
@[simp] theorem State.writeAt_schedule : (s.writeAt place ml addr v).schedule = s.schedule := rfl
@[simp] theorem State.writeAt_ir : (s.writeAt place ml addr v).ir = s.ir := rfl
@[simp] theorem State.writeAt_tcu : (s.writeAt place ml addr v).tcu = s.tcu := rfl
@[simp] theorem State.writeAt_cycles : (s.writeAt place ml addr v).cycles = s.cycles := rfl
@[simp] theorem State.writeAt_bus : (s.writeAt place ml addr v).bus =
    s.bus ++ [{ place := place, addr := addr, value := v, write := true, sync := false, ml := ml }] := rfl
@[simp] theorem State.writeAt_dma : (s.writeAt place ml addr v).dma = (s.upTo place).dma := rfl
@[simp] theorem State.writeAt_draws : (s.writeAt place ml addr v).draws = s.draws := rfl

@[simp] theorem State.push_a : (s.push place v).a = s.a := rfl
@[simp] theorem State.push_x : (s.push place v).x = s.x := rfl
@[simp] theorem State.push_y : (s.push place v).y = s.y := rfl
@[simp] theorem State.push_sp : (s.push place v).sp = s.sp - 1 := rfl
@[simp] theorem State.push_pc : (s.push place v).pc = s.pc := rfl
@[simp] theorem State.push_p : (s.push place v).p = s.p := rfl
@[simp] theorem State.push_mem : (s.push place v).mem =
    Memory.store s.platform (s.upTo place).mem (stackAddr s.sp) v := rfl
@[simp] theorem State.push_platform : (s.push place v).platform = s.platform := rfl
@[simp] theorem State.push_nmiPending : (s.push place v).nmiPending = s.nmiPending := rfl
@[simp] theorem State.push_resPending : (s.push place v).resPending = s.resPending := rfl
@[simp] theorem State.push_resHeld : (s.push place v).resHeld = s.resHeld := rfl
@[simp] theorem State.push_irqShadow : (s.push place v).irqShadow = s.irqShadow := rfl
@[simp] theorem State.push_stateLost : (s.push place v).stateLost = s.stateLost := rfl
@[simp] theorem State.push_pins : (s.push place v).pins = s.pins := rfl
@[simp] theorem State.push_schedule : (s.push place v).schedule = s.schedule := rfl
@[simp] theorem State.push_ir : (s.push place v).ir = s.ir := rfl
@[simp] theorem State.push_tcu : (s.push place v).tcu = s.tcu := rfl
@[simp] theorem State.push_cycles : (s.push place v).cycles = s.cycles := rfl
@[simp] theorem State.push_bus : (s.push place v).bus =
    s.bus ++ [{ place := place, addr := stackAddr s.sp, value := v, write := true, sync := false, ml := false }] :=
      rfl
@[simp] theorem State.push_dma : (s.push place v).dma = (s.upTo place).dma := rfl
@[simp] theorem State.push_draws : (s.push place v).draws = s.draws := rfl

@[simp] theorem State.pushWord_a : (s.pushWord w).a = s.a :=
  (State.push_a ..).trans (State.push_a s dataPlace (highByte w))
@[simp] theorem State.pushWord_x : (s.pushWord w).x = s.x :=
  (State.push_x ..).trans (State.push_x s dataPlace (highByte w))
@[simp] theorem State.pushWord_y : (s.pushWord w).y = s.y :=
  (State.push_y ..).trans (State.push_y s dataPlace (highByte w))
@[simp] theorem State.pushWord_sp : (s.pushWord w).sp = s.sp - 1 - 1 := by
  rw [State.pushWord, State.push_sp, State.push_sp]
@[simp] theorem State.pushWord_pc : (s.pushWord w).pc = s.pc :=
  (State.push_pc ..).trans (State.push_pc s dataPlace (highByte w))
@[simp] theorem State.pushWord_p : (s.pushWord w).p = s.p :=
  (State.push_p ..).trans (State.push_p s dataPlace (highByte w))
@[simp] theorem State.pushWord_mem : (s.pushWord w).mem =
    ((s.push dataPlace (highByte w)).push (dataPlace + 1) (lowByte w)).mem := rfl
@[simp] theorem State.pushWord_platform : (s.pushWord w).platform = s.platform :=
  (State.push_platform ..).trans (State.push_platform s dataPlace (highByte w))
@[simp] theorem State.pushWord_nmiPending : (s.pushWord w).nmiPending = s.nmiPending :=
  (State.push_nmiPending ..).trans (State.push_nmiPending s dataPlace (highByte w))
@[simp] theorem State.pushWord_resPending : (s.pushWord w).resPending = s.resPending :=
  (State.push_resPending ..).trans (State.push_resPending s dataPlace (highByte w))
@[simp] theorem State.pushWord_resHeld : (s.pushWord w).resHeld = s.resHeld :=
  (State.push_resHeld ..).trans (State.push_resHeld s dataPlace (highByte w))
@[simp] theorem State.pushWord_irqShadow : (s.pushWord w).irqShadow = s.irqShadow :=
  (State.push_irqShadow ..).trans (State.push_irqShadow s dataPlace (highByte w))
@[simp] theorem State.pushWord_stateLost : (s.pushWord w).stateLost = s.stateLost :=
  (State.push_stateLost ..).trans (State.push_stateLost s dataPlace (highByte w))
@[simp] theorem State.pushWord_pins : (s.pushWord w).pins = s.pins :=
  (State.push_pins ..).trans (State.push_pins s dataPlace (highByte w))
@[simp] theorem State.pushWord_schedule : (s.pushWord w).schedule = s.schedule :=
  (State.push_schedule ..).trans (State.push_schedule s dataPlace (highByte w))
@[simp] theorem State.pushWord_ir : (s.pushWord w).ir = s.ir :=
  (State.push_ir ..).trans (State.push_ir s dataPlace (highByte w))
@[simp] theorem State.pushWord_tcu : (s.pushWord w).tcu = s.tcu :=
  (State.push_tcu ..).trans (State.push_tcu s dataPlace (highByte w))
@[simp] theorem State.pushWord_cycles : (s.pushWord w).cycles = s.cycles :=
  (State.push_cycles ..).trans (State.push_cycles s dataPlace (highByte w))
@[simp] theorem State.pushWord_bus : (s.pushWord w).bus =
    s.bus ++
      [{ place := dataPlace, addr := stackAddr s.sp, value := highByte w, write := true, sync := false, ml := false
      }] ++
      [{ place := dataPlace + 1, addr := stackAddr (s.sp - 1), value := lowByte w, write := true, sync := false
         ml := false }] := by
  rw [State.pushWord, State.push_bus, State.push_bus, State.push_sp]
@[simp] theorem State.pushWord_dma : (s.pushWord w).dma =
    ((s.push dataPlace (highByte w)).upTo (dataPlace + 1)).dma := by
  rw [State.pushWord, State.push_dma]
@[simp] theorem State.pushWord_draws : (s.pushWord w).draws = s.draws :=
  (State.push_draws ..).trans (State.push_draws s dataPlace (highByte w))

@[simp] theorem State.pull_a : s.pull.a = s.a := rfl
@[simp] theorem State.pull_x : s.pull.x = s.x := rfl
@[simp] theorem State.pull_y : s.pull.y = s.y := rfl
@[simp] theorem State.pull_sp : s.pull.sp = s.sp + 1 := rfl
@[simp] theorem State.pull_pc : s.pull.pc = s.pc := rfl
@[simp] theorem State.pull_p : s.pull.p = s.p := rfl
@[simp] theorem State.pull_mem : s.pull.mem = s.mem := rfl
@[simp] theorem State.pull_platform : s.pull.platform = s.platform := rfl
@[simp] theorem State.pull_nmiPending : s.pull.nmiPending = s.nmiPending := rfl
@[simp] theorem State.pull_resPending : s.pull.resPending = s.resPending := rfl
@[simp] theorem State.pull_resHeld : s.pull.resHeld = s.resHeld := rfl
@[simp] theorem State.pull_irqShadow : s.pull.irqShadow = s.irqShadow := rfl
@[simp] theorem State.pull_stateLost : s.pull.stateLost = s.stateLost := rfl
@[simp] theorem State.pull_pins : s.pull.pins = s.pins := rfl
@[simp] theorem State.pull_schedule : s.pull.schedule = s.schedule := rfl
@[simp] theorem State.pull_ir : s.pull.ir = s.ir := rfl
@[simp] theorem State.pull_tcu : s.pull.tcu = s.tcu := rfl
@[simp] theorem State.pull_cycles : s.pull.cycles = s.cycles := rfl
@[simp] theorem State.pull_bus : s.pull.bus = s.bus := rfl
@[simp] theorem State.pull_dma : s.pull.dma = s.dma := rfl
@[simp] theorem State.pull_draws : s.pull.draws = s.draws := rfl

@[simp] theorem State.pullWord_a : s.pullWord.a = s.a := rfl
@[simp] theorem State.pullWord_x : s.pullWord.x = s.x := rfl
@[simp] theorem State.pullWord_y : s.pullWord.y = s.y := rfl
@[simp] theorem State.pullWord_sp : s.pullWord.sp = s.sp + 1 + 1 := rfl
@[simp] theorem State.pullWord_pc : s.pullWord.pc = s.pc := rfl
@[simp] theorem State.pullWord_p : s.pullWord.p = s.p := rfl
@[simp] theorem State.pullWord_mem : s.pullWord.mem = s.mem := rfl
@[simp] theorem State.pullWord_platform : s.pullWord.platform = s.platform := rfl
@[simp] theorem State.pullWord_nmiPending : s.pullWord.nmiPending = s.nmiPending := rfl
@[simp] theorem State.pullWord_resPending : s.pullWord.resPending = s.resPending := rfl
@[simp] theorem State.pullWord_resHeld : s.pullWord.resHeld = s.resHeld := rfl
@[simp] theorem State.pullWord_irqShadow : s.pullWord.irqShadow = s.irqShadow := rfl
@[simp] theorem State.pullWord_stateLost : s.pullWord.stateLost = s.stateLost := rfl
@[simp] theorem State.pullWord_pins : s.pullWord.pins = s.pins := rfl
@[simp] theorem State.pullWord_schedule : s.pullWord.schedule = s.schedule := rfl
@[simp] theorem State.pullWord_ir : s.pullWord.ir = s.ir := rfl
@[simp] theorem State.pullWord_tcu : s.pullWord.tcu = s.tcu := rfl
@[simp] theorem State.pullWord_cycles : s.pullWord.cycles = s.cycles := rfl
@[simp] theorem State.pullWord_bus : s.pullWord.bus = s.bus := rfl
@[simp] theorem State.pullWord_dma : s.pullWord.dma = s.dma := rfl
@[simp] theorem State.pullWord_draws : s.pullWord.draws = s.draws := rfl

@[simp] theorem State.advance_a : (s.advance len).a = s.a := rfl
@[simp] theorem State.advance_x : (s.advance len).x = s.x := rfl
@[simp] theorem State.advance_y : (s.advance len).y = s.y := rfl
@[simp] theorem State.advance_sp : (s.advance len).sp = s.sp := rfl
@[simp] theorem State.advance_pc : (s.advance len).pc = s.pc + BitVec.ofNat 16 len := rfl
@[simp] theorem State.advance_p : (s.advance len).p = s.p := rfl
@[simp] theorem State.advance_mem : (s.advance len).mem = s.mem := rfl
@[simp] theorem State.advance_platform : (s.advance len).platform = s.platform := rfl
@[simp] theorem State.advance_nmiPending : (s.advance len).nmiPending = s.nmiPending := rfl
@[simp] theorem State.advance_resPending : (s.advance len).resPending = s.resPending := rfl
@[simp] theorem State.advance_resHeld : (s.advance len).resHeld = s.resHeld := rfl
@[simp] theorem State.advance_irqShadow : (s.advance len).irqShadow = s.irqShadow := rfl
@[simp] theorem State.advance_stateLost : (s.advance len).stateLost = s.stateLost := rfl
@[simp] theorem State.advance_pins : (s.advance len).pins = s.pins := rfl
@[simp] theorem State.advance_schedule : (s.advance len).schedule = s.schedule := rfl
@[simp] theorem State.advance_ir : (s.advance len).ir = s.ir := rfl
@[simp] theorem State.advance_tcu : (s.advance len).tcu = s.tcu := rfl
@[simp] theorem State.advance_cycles : (s.advance len).cycles = s.cycles := rfl
@[simp] theorem State.advance_bus : (s.advance len).bus = s.bus := rfl
@[simp] theorem State.advance_dma : (s.advance len).dma = s.dma := rfl
@[simp] theorem State.advance_draws : (s.advance len).draws = s.draws := rfl

end Sys2Proof.Machine
end

