-- ==== Sys2Proof/Laws/Ops.lean ====
section
/-! SUPPORT. One lemma for each shared operation that says all it does; later proofs cite these and unfold nothing. -/

namespace Sys2Proof.Machine

/-! Bytes and words -/

theorem wordOf_toNat (lo hi : Byte) : (wordOf lo hi).toNat = 256 * hi.toNat + lo.toNat := by
  rw [wordOf, BitVec.toNat_append, ← Nat.shiftLeft_add_eq_or_of_lt lo.isLt, Nat.shiftLeft_eq]; omega

theorem lowByte_toNat (w : Word) : (lowByte w).toNat = w.toNat % 256 := by simp [lowByte]

theorem highByte_toNat (w : Word) : (highByte w).toNat = w.toNat / 256 := by
  simp [highByte, Nat.shiftRight_eq_div_pow]; omega

@[simp] theorem wordOf_lowByte_highByte (w : Word) : wordOf (lowByte w) (highByte w) = w := by
  apply BitVec.eq_of_toNat_eq; rw [wordOf_toNat, lowByte_toNat, highByte_toNat]; omega

@[simp] theorem lowByte_wordOf (lo hi : Byte) : lowByte (wordOf lo hi) = lo := by
  apply BitVec.eq_of_toNat_eq; rw [lowByte_toNat, wordOf_toNat]; omega

@[simp] theorem highByte_wordOf (lo hi : Byte) : highByte (wordOf lo hi) = hi := by
  apply BitVec.eq_of_toNat_eq; rw [highByte_toNat, wordOf_toNat]; omega

theorem zeroPage_toNat (z : Byte) : (zeroPage z).toNat = z.toNat := by
  unfold zeroPage; bv_omega

theorem stackAddr_toNat (sp : Byte) : (stackAddr sp).toNat = 256 + sp.toNat := by
  unfold stackAddr; rw [wordOf_toNat]; rfl

theorem stackAddr_inj {p q : Byte} : stackAddr p = stackAddr q ↔ p = q := by
  constructor
  · intro h
    have h' := congrArg lowByte h
    simpa [stackAddr] using h'
  · rintro rfl; rfl

/-! Memory and the platform -/

/-- `MemRead` after a store (R8, R62). -/
theorem State.read_write (s : State) (addr : Word) (v : Byte) (other : Word) :
    (s.write addr v).read other = if addr = other ∧ kindAt s.platform other = .ram then v else s.read other :=
  Memory.read_store s.platform s.mem addr v other

/-- With no region given, every address is RAM. -/
@[simp] theorem kindAt_nil (addr : Word) : kindAt [] addr = .ram := rfl

/-- What a state reads depends on its memory alone. -/
theorem State.read_congr {s t : State} (h : t.mem = s.mem) (addr : Word) : t.read addr = s.read addr := by
  simp only [State.read, h]

@[simp] theorem State.read_advance (s : State) (len : Nat) (addr : Word) :
    (s.advance len).read addr = s.read addr := rfl

@[simp] theorem State.read_pull (s : State) (addr : Word) : s.pull.read addr = s.read addr := rfl

@[simp] theorem State.read_pullWord (s : State) (addr : Word) : s.pullWord.read addr = s.read addr := rfl

/-! Other bus masters -/

/-- With no other bus master at work, a place of the step is like any other. -/
theorem State.upTo_of_nil {s : State} (h : s.dma = []) (place : Nat) : s.upTo place = s := by
  rw [State.upTo, h]
  exact congrArg (fun dma => { s with dma := dma }) h.symm

/-- Reaching one place and then a later one is reaching the later one (R77). -/
theorem State.upTo_upTo (s : State) {place later : Nat} (h : place ≤ later) :
    (s.upTo place).upTo later = s.upTo later := by
  have key : ∀ l : List MasterWrite,
      (l.takeWhile fun w => w.before.val ≤ place) ++
          ((l.dropWhile fun w => w.before.val ≤ place).takeWhile fun w => w.before.val ≤ later) =
        (l.takeWhile fun w => w.before.val ≤ later) ∧
      ((l.dropWhile fun w => w.before.val ≤ place).dropWhile fun w => w.before.val ≤ later) =
        (l.dropWhile fun w => w.before.val ≤ later) := by
    intro l
    induction l with
    | nil => simp
    | cons w rest ih =>
      by_cases hw : w.before.val ≤ place
      · simpa [hw, hw.trans h] using ih
      · simp [hw]
  simp only [State.upTo, ← List.foldl_append, (key s.dma).1, (key s.dma).2]

/-- After the last access nothing of what other bus masters do within the step is left. -/
theorem State.upTo_end_dma (s : State) : (s.upTo endPlace).dma = [] := by
  rw [State.upTo_dma, List.dropWhile_eq_nil_iff]
  intro w _
  have := w.before.isLt
  rw [decide_eq_true_eq]
  exact Nat.le_of_lt_succ this

theorem State.wf_upTo {s : State} (place : Nat) (h : Memory.wf s.mem) : Memory.wf (s.upTo place).mem :=
  Memory.wf_masters s.platform _ h

/-! Reads and writes at a place of the step -/

/-- A read of RAM (R62). -/
theorem State.readAt_ram {s : State} {addr : Word} (h : kindAt s.platform addr = .ram) (place : Nat) :
    s.readAt place addr = (s.upTo place).read addr := by
  simp only [State.readAt, State.supplied, State.upTo_platform, h]

/-- What an access reads depends on memory, the platform, the other bus masters and the step's draw alone. -/
theorem State.readAt_congr {s t : State} (hm : t.mem = s.mem) (hp : t.platform = s.platform) (hd : t.dma = s.dma)
    (hn : t.draws = s.draws) (place : Nat) (addr : Word) : t.readAt place addr = s.readAt place addr := by
  simp only [State.readAt, State.supplied, State.read, State.upTo, hm, hp, hd, hn]

@[simp] theorem State.readAt_advance (s : State) (len place : Nat) (addr : Word) :
    (s.advance len).readAt place addr = s.readAt place addr := rfl

@[simp] theorem State.readAt_pull (s : State) (place : Nat) (addr : Word) :
    s.pull.readAt place addr = s.readAt place addr := rfl

/-- A read once an earlier place was reached (R77). -/
theorem State.readAt_upTo (s : State) {place later : Nat} (h : place ≤ later) (addr : Word) :
    (s.upTo place).readAt later addr = s.readAt later addr := by
  simp only [State.readAt, State.upTo_upTo s h]

/-- A write at a place of the step: every other byte is as the other bus masters leave it (R62, R77). -/
theorem State.read_writeAt (s : State) (place : Nat) (ml : Bool) (addr : Word) (v : Byte) (other : Word) :
    (s.writeAt place ml addr v).read other =
      if addr = other ∧ kindAt s.platform other = .ram then v else (s.upTo place).read other :=
  Memory.read_store s.platform (s.upTo place).mem addr v other

/-! The stack -/

/-- `Push8` (R25). -/
theorem State.read_push (s : State) (place : Nat) (v : Byte) (addr : Word) :
    (s.push place v).read addr =
      if stackAddr s.sp = addr ∧ kindAt s.platform addr = .ram then v else (s.upTo place).read addr :=
  State.read_writeAt s place false (stackAddr s.sp) v addr

theorem State.push_dma_nil {s : State} (hd : s.dma = []) (place : Nat) (v : Byte) : (s.push place v).dma = [] := by
  rw [State.push_dma, State.upTo_of_nil hd, hd]

/-- `Pull8` after `Push8` in RAM, with no other bus master at work (R25, R26). -/
theorem State.pulled_push {s : State} (hd : s.dma = []) (hr : kindAt s.platform (stackAddr s.sp) = .ram)
    (place place' : Nat) (v : Byte) : (s.push place v).pulled place' = v := by
  have hn := State.push_dma_nil hd place v
  have hsp : (s.push place v).sp + 1 = s.sp := by simp
  rw [State.pulled, hsp, State.readAt_ram (s := s.push place v) hr, State.upTo_of_nil hn, State.read_push,
    if_pos ⟨rfl, hr⟩]

/-- The two pushes of a 16-bit value, with no other bus master at work: its high byte at the pointer, its low byte
below, where RAM is (R62, R233, R305). -/
theorem State.read_pushWord {s : State} (hd : s.dma = []) (w : Word) (addr : Word) :
    (s.pushWord w).read addr =
      if stackAddr (s.sp - 1) = addr ∧ kindAt s.platform addr = .ram then lowByte w
      else if stackAddr s.sp = addr ∧ kindAt s.platform addr = .ram then highByte w else s.read addr := by
  have hn := State.push_dma_nil hd dataPlace (highByte w)
  rw [State.pushWord, State.read_push, State.upTo_of_nil hn, State.read_push, State.upTo_of_nil hd, State.push_sp,
    State.push_platform]

theorem State.pushWord_dma_nil {s : State} (hd : s.dma = []) (w : Word) : (s.pushWord w).dma = [] :=
  State.push_dma_nil (State.push_dma_nil hd _ _) _ _

/-- The word two pulls give after two pushes in RAM, with no other bus master at work (R25, R26). -/
theorem State.pulledWord_pushWord {s : State} (hd : s.dma = []) (hr : kindAt s.platform (stackAddr s.sp) = .ram)
    (hr' : kindAt s.platform (stackAddr (s.sp - 1)) = .ram) (w : Word) (place : Nat) :
    (s.pushWord w).pulledWord place = w := by
  have hn := State.pushWord_dma_nil hd w
  have hlo : (s.pushWord w).pulled place = lowByte w :=
    State.pulled_push (s := s.push dataPlace (highByte w)) (State.push_dma_nil hd _ _) hr' _ _ _
  have hhi : (s.pushWord w).pull.pulled (place + 1) = highByte w := by
    have hsp : (s.pushWord w).pull.sp + 1 = s.sp := by
      rw [State.pull_sp, State.pushWord_sp]; bv_omega
    have hne : stackAddr (s.sp - 1) ≠ stackAddr s.sp := fun h => by have := stackAddr_inj.mp h; bv_omega
    rw [State.pulled, hsp, State.readAt_pull, State.readAt_ram (s := s.pushWord w) hr, State.upTo_of_nil hn,
      State.read_pushWord hd, if_neg (fun h => hne h.1), if_pos ⟨rfl, hr⟩]
  rw [State.pulledWord, hlo, hhi, wordOf_lowByte_highByte]

/-! Flags -/

/-- `SetP(PImage(b))` gives back the flags: bits 5 and 4 carry none (R39, R40). -/
@[simp] theorem Flags.ofByte_image (p : Flags) (b : Bool) : Flags.ofByte (p.image b) = p := by
  obtain ⟨n, v, d, i, z, c⟩ := p
  revert n v d i z c b
  decide

theorem Flags.setNZ_eq (p : Flags) (v : Byte) : p.setNZ v = { p with n := v.msb, z := v == 0 } := rfl

/-! The entry sequence and the return from it -/

/-- The registers and flags after the entry sequence (R305). -/
theorem State.enterInterrupt_eq (s : State) (vector : Word) (b : Bool) (ret : Word) :
    s.enterInterrupt vector b ret =
      { s with
        mem := (s.enterInterrupt vector b ret).mem
        dma := (s.enterInterrupt vector b ret).dma
        bus := s.bus ++
          [{ place := dataPlace, addr := stackAddr s.sp, value := highByte ret, write := true, sync := false, ml := false },
           { place := dataPlace + 1, addr := stackAddr (s.sp - 1), value := lowByte ret, write := true, sync := false
             ml := false },
           { place := dataPlace + 2, addr := stackAddr (s.sp - 2), value := s.p.image b, write := true, sync := false
             ml := false }]
        sp := s.sp - 3
        p := { s.p with i := true, d := false }
        pc := (s.enterInterrupt vector b ret).pc } := by
  have h2 : s.sp - 1#8 - 1#8 = s.sp - 2#8 := by bv_omega
  have h3 : s.sp - 2#8 - 1#8 = s.sp - 3#8 := by bv_omega
  simp [State.enterInterrupt, State.push, State.pushWord, State.writeAt, State.upTo, h2, h3]

/-- `pc` after the entry sequence: the word at the vector, read after the pushes (R305, R306). -/
theorem State.enterInterrupt_pc (s : State) (vector : Word) (b : Bool) (ret : Word) :
    (s.enterInterrupt vector b ret).pc = (s.enterInterrupt vector b ret).readWord vectorPlace vector := rfl

theorem irqVector_succ : irqVector + 1 = 0xFFFF := by decide

theorem nmiVector_succ : nmiVector + 1 = 0xFFFB := by decide

theorem resetVector_succ : resetVector + 1 = 0xFFFD := by decide

theorem State.enterInterrupt_dma_nil {s : State} (hd : s.dma = []) (vector : Word) (b : Bool) (ret : Word) :
    (s.enterInterrupt vector b ret).dma = [] := by
  show ((s.pushWord ret).push (dataPlace + 2) (s.p.image b)).dma = []
  exact State.push_dma_nil (State.pushWord_dma_nil hd ret) _ _

/-- The memory after the entry sequence, with no other bus master at work: three bytes of page one, where RAM is
(R62, R305). -/
theorem State.read_enterInterrupt {s : State} (hd : s.dma = []) (vector : Word) (b : Bool) (ret : Word) (addr : Word) :
    (s.enterInterrupt vector b ret).read addr =
      if stackAddr (s.sp - 1 - 1) = addr ∧ kindAt s.platform addr = .ram then s.p.image b
      else if stackAddr (s.sp - 1) = addr ∧ kindAt s.platform addr = .ram then lowByte ret
      else if stackAddr s.sp = addr ∧ kindAt s.platform addr = .ram then highByte ret else s.read addr := by
  have h : (s.enterInterrupt vector b ret).read addr =
      ((s.pushWord ret).push (dataPlace + 2) (s.p.image b)).read addr := rfl
  rw [h, State.read_push, State.upTo_of_nil (State.pushWord_dma_nil hd ret), State.read_pushWord hd,
    State.pushWord_sp, State.pushWord_platform]

/-- The registers and flags after the return (R269). -/
theorem State.returnFromInterrupt_eq (s : State) :
    s.returnFromInterrupt =
      { s with
        sp := s.sp + 3
        p := Flags.ofByte (s.readAt dataPlace (stackAddr (s.sp + 1)))
        pc := wordOf (s.readAt (dataPlace + 1) (stackAddr (s.sp + 2)))
          (s.readAt (dataPlace + 2) (stackAddr (s.sp + 3))) } := by
  have h2 : s.sp + 1#8 + 1#8 = s.sp + 2#8 := by bv_omega
  have h3 : s.sp + 2#8 + 1#8 = s.sp + 3#8 := by bv_omega
  simp [State.returnFromInterrupt, State.pull, State.pullWord, State.pulledWord, State.pulled, h2, h3,
    State.readAt, State.supplied, State.read, State.upTo]

/-- The reset sequence (R351, R352): what it fixes, and what it leaves alone. -/
theorem State.resetSequence_spec (s : State) :
    s.resetSequence.pc = s.readWord vectorPlace resetVector ∧ s.resetSequence.p.i = true ∧
      s.resetSequence.p.d = false ∧ s.resetSequence.mem = s.mem ∧ s.resetSequence.dma = s.dma ∧
      s.resetSequence.platform = s.platform ∧ s.resetSequence.nmiPending = false ∧
      s.resetSequence.resPending = false ∧ s.resetSequence.stateLost = false ∧ s.resetSequence.pins = s.pins ∧
      s.resetSequence.schedule = s.schedule :=
  ⟨rfl, rfl, rfl, rfl, rfl, rfl, rfl, rfl, rfl, rfl, rfl⟩

/-! The shared meanings: if one answers `next t`, this is `t` -/

section Meanings

variable {s t : State} {m v : Byte} {ea target : Word} {len n : Nat} {rel zp op : Byte}

theorem lda_next (h : lda m len s = .next t) : t = { s.advance len with a := m, p := s.p.setNZ m } := by
  injection h with h; exact h.symm

theorem ldx_next (h : ldx m len s = .next t) : t = { s.advance len with x := m, p := s.p.setNZ m } := by
  injection h with h; exact h.symm

theorem ldy_next (h : ldy m len s = .next t) : t = { s.advance len with y := m, p := s.p.setNZ m } := by
  injection h with h; exact h.symm

theorem store_next (h : store v ea len s = .next t) : t = (s.writeAt dataPlace false ea v).advance len := by
  injection h with h; exact h.symm

theorem txs_next (h : txs v s = .next t) : t = { s.advance 1 with sp := v } := by
  injection h with h; exact h.symm

theorem adc_next (h : adc m len s = .next t) :
    (s.p.d = false ∧ t =
      { s.advance len with a := (addBin s.a m s.p.c).result, p := s.p.ofBin (addBin s.a m s.p.c) }) ∨
    (s.p.d = true ∧ t =
      { s.advance len with a := (addDec s.a m s.p.c).result, p := s.p.ofDec (addDec s.a m s.p.c) }) := by
  unfold adc at h
  split at h
  · next hd => injection h with h; exact .inr ⟨hd, h.symm⟩
  · next hd => injection h with h; exact .inl ⟨by simpa using hd, h.symm⟩

theorem sbc_next (h : sbc m len s = .next t) :
    (s.p.d = false ∧ t =
      { s.advance len with a := (subBin s.a m s.p.c).result, p := s.p.ofBin (subBin s.a m s.p.c) }) ∨
    (s.p.d = true ∧ t =
      { s.advance len with a := (subDec s.a m s.p.c).result, p := s.p.ofDec (subDec s.a m s.p.c) }) := by
  unfold sbc at h
  split at h
  · next hd => injection h with h; exact .inr ⟨hd, h.symm⟩
  · next hd => injection h with h; exact .inl ⟨by simpa using hd, h.symm⟩

theorem compare_next {r : Byte} (h : compare r m len s = .next t) :
    t = { s.advance len with p := s.p.compare r m } := by
  injection h with h; exact h.symm

theorem countMem_next {f : Byte → Byte} (h : countMem f ea len s = .next t) :
    t = { (s.writeBack true ea (f (s.datum ea))).advance len with p := s.p.setNZ (f (s.datum ea)) } := by
  injection h with h; exact h.symm

theorem bitMem_next (h : bitMem m len s = .next t) :
    t = { s.advance len with p := { s.p.testZ s.a m with n := m.getLsbD 7, v := m.getLsbD 6 } } := by
  injection h with h; exact h.symm

theorem bitImm_next (h : bitImm m len s = .next t) : t = { s.advance len with p := s.p.testZ s.a m } := by
  injection h with h; exact h.symm

theorem testMem_next {f : Byte → Byte} (h : testMem f ea len s = .next t) :
    t = { (s.writeBack true ea (f (s.datum ea))).advance len with p := s.p.testZ s.a (s.datum ea) } := by
  injection h with h; exact h.symm

theorem shiftAcc_next {f : Byte → Shifted} (h : shiftAcc f s = .next t) :
    t = { s.advance 1 with a := (f s.a).result, p := s.p.ofShift (f s.a) } := by
  injection h with h; exact h.symm

theorem shiftMem_next {f : Byte → Shifted} (h : shiftMem f ea len s = .next t) :
    t = { (s.writeBack true ea (f (s.datum ea)).result).advance len with p := s.p.ofShift (f (s.datum ea)) } := by
  injection h with h; exact h.symm

theorem changeBits_next {f : Byte → Byte} (h : changeBits f zp s = .next t) :
    t = (s.writeBack Config.mlDuringBitOps (eaZp zp) (f (s.datum (eaZp zp)))).advance 2 := by
  injection h with h; exact h.symm

theorem branch_next {cond : State → Bool} (h : branch cond len rel s = .next t) :
    t = if cond s then { s with pc := relTarget len rel s } else s.advance len := by
  injection h with h; exact h.symm

theorem jump_next (h : jump target s = .next t) : t = { s with pc := target } := by
  injection h with h; exact h.symm

theorem callSubroutine_next (h : callSubroutine target s = .next t) :
    t = { s.pushWord (s.pc + 2) with pc := target } := by
  injection h with h; exact h.symm

theorem returnFromSubroutine_next (h : returnFromSubroutine s = .next t) :
    t = { s.pullWord with pc := s.pulledWord dataPlace + 1 } := by
  injection h with h; exact h.symm

theorem pushByte_next (h : pushByte v s = .next t) : t = (s.push dataPlace v).advance 1 := by
  injection h with h; exact h.symm

theorem setP_next {p : Flags} (h : setP p s = .next t) : t = { s.advance 1 with p := p } := by
  injection h with h; exact h.symm

theorem breakEntry_next (h : breakEntry s = .next t) : t = s.enterInterrupt irqVector true (s.pc + 2) := by
  injection h with h; exact h.symm

theorem interruptReturn_next (h : interruptReturn s = .next t) : t = s.returnFromInterrupt := by
  injection h with h; exact h.symm

theorem reserved_next (h : reserved op s = .next t) : t = s.advance (Config.rsvLen op) := by
  injection h with h; exact h.symm

end Meanings

end Sys2Proof.Machine

namespace Sys2Proof.Laws

/-- The program counter after reset is the word at the restart vector (R44, R351). -/
theorem reset_pc_is_vector :
    Sys2Proof.Machine.State.reset.pc =
      Sys2Proof.Machine.State.readWord Sys2Proof.Machine.State.reset Sys2Proof.Machine.vectorPlace
        Sys2Proof.Machine.resetVector := by decide

end Sys2Proof.Laws
end

