-- ==== Sys2Proof/Laws/Bus.lean ====
section
/-! SUPPORT. What the reads of R76 do to a list of accesses, said once: they stand among them, and each gives what the
platform supplies then. -/

namespace Sys2Proof.Machine

/-! The state a list of accesses leaves within the step -/

@[simp] theorem State.replay_nil (s : State) : s.replay [] = s := rfl

theorem State.replay_append (s : State) (before after : List BusAccess) :
    s.replay (before ++ after) = (s.replay before).replay after := by
  induction before generalizing s with
  | nil => rfl
  | cons access rest ih => exact ih _

/-- A read leaves the state as it is. -/
theorem State.replay_read (s : State) {access : BusAccess} (h : access.write = false) (rest : List BusAccess) :
    s.replay (access :: rest) = s.replay rest := by simp [State.replay, h]

/-- Only the writes count. -/
theorem State.replay_filter (s : State) (accesses : List BusAccess) :
    s.replay (accesses.filter fun access => access.write) = s.replay accesses := by
  induction accesses generalizing s with
  | nil => rfl
  | cons access rest ih =>
    by_cases h : access.write
    · rw [List.filter_cons_of_pos h]; exact ih _
    · rw [List.filter_cons_of_neg h, ih, State.replay_read s (by simpa using h)]

@[simp] theorem State.replay_platform (s : State) (accesses : List BusAccess) :
    (s.replay accesses).platform = s.platform := by
  induction accesses generalizing s with
  | nil => rfl
  | cons access rest ih =>
    rw [State.replay, ih]
    split <;> rfl

/-- Two states that differ in nothing a bus access depends on or changes: memory, the platform, the other bus masters and
the step's draw. -/
structure State.SameBus (s t : State) : Prop where
  mem : t.mem = s.mem
  platform : t.platform = s.platform
  dma : t.dma = s.dma
  draws : t.draws = s.draws

theorem State.SameBus.upTo {s t : State} (h : s.SameBus t) (place : Nat) : (s.upTo place).SameBus (t.upTo place) :=
  ⟨by simp only [State.upTo_mem, h.mem, h.platform, h.dma], h.platform, by simp only [State.upTo_dma, h.dma], h.draws⟩

theorem State.SameBus.write {s t : State} (h : s.SameBus t) (addr : Word) (v : Byte) :
    (s.write addr v).SameBus (t.write addr v) :=
  ⟨by simp only [State.write_mem, h.mem, h.platform], h.platform, h.dma, h.draws⟩

theorem State.SameBus.replay {s t : State} (h : s.SameBus t) (accesses : List BusAccess) :
    (s.replay accesses).SameBus (t.replay accesses) := by
  induction accesses generalizing s t with
  | nil => exact h
  | cons access rest ih =>
    rw [State.replay, State.replay]
    split
    · exact ih ((h.upTo _).write _ _)
    · exact ih h

theorem State.SameBus.supplied {s t : State} (h : s.SameBus t) (number : Nat) (addr : Word) :
    t.supplied number addr = s.supplied number addr := by
  simp only [State.supplied, State.read, h.mem, h.platform, h.draws]

theorem State.SameBus.fillCycles {s t : State} (h : s.SameBus t) (dummyReads : Bool) (avoid : Option Word)
    (first last cycles : Nat) (listed : List BusAccess) :
    t.fillCycles dummyReads avoid first last cycles listed = s.fillCycles dummyReads avoid first last cycles listed := by
  have hd (k moment l) : t.discardedAccess avoid k moment l = s.discardedAccess avoid k moment l := by
    simp only [State.discardedAccess, h.draws, ((h.replay l).upTo _).supplied]
  have hi (n) : t.interleave avoid first last n listed = s.interleave avoid first last n listed := by
    induction n with
    | zero => rfl
    | succ n ih => simp only [State.interleave, ih, hd, h.draws]
  simp only [State.fillCycles, hi]

/-! Where the reads of R76 stand -/

/-- What a test takes from the front of a list is not changed by elements after it that fail the test. -/
theorem takeWhile_append_of_all_neg {α : Type} {p : α → Bool} (l after : List α) (h : ∀ a ∈ after, p a = false) :
    (l ++ after).takeWhile p = l.takeWhile p ∧ (l ++ after).dropWhile p = l.dropWhile p ++ after := by
  induction l with
  | nil =>
    cases after with
    | nil => exact ⟨rfl, rfl⟩
    | cons a rest => simp [h a]
  | cons a rest ih => by_cases ha : p a <;> simp [ha, ih]

/-- All that `interleave` does. The accesses before the `first` moment and those from the `last` on stand where they
stood. Those between keep their order, with `n` reads without a label among them. -/
theorem State.interleave_spec (s : State) (avoid : Option Word) {first last : Nat} (hfl : first ≤ last) (n : Nat)
    (before mid after : List BusAccess) (hb : ∀ access ∈ before, 2 * access.place < first)
    (ha : ∀ access ∈ after, last ≤ 2 * access.place) :
    ∃ mid', s.interleave avoid first last n (before ++ mid ++ after) = before ++ mid' ++ after ∧ mid.Sublist mid' ∧
      mid'.length = mid.length + n ∧
      (∀ access ∈ mid', access ∈ mid ∨ ∃ k moment l, access = s.discardedAccess avoid k moment l) ∧
      (mid'.filter fun access => access.write) = mid.filter fun access => access.write := by
  induction n with
  | zero => exact ⟨mid, rfl, .refl _, rfl, fun _ h => .inl h, rfl⟩
  | succ n ih =>
    obtain ⟨l, he, hs, hl, hm, hf⟩ := ih
    simp only [State.interleave, he]
    have hmod := Nat.mod_lt (Config.discardedRead s.draws n).moment (show 0 < last + 1 - first by omega)
    generalize hg : first + (Config.discardedRead s.draws n).moment % (last + 1 - first) = moment
    let p : BusAccess → Bool := fun access => decide (2 * access.place < moment)
    have hbp : ∀ access ∈ before, p access = true := fun access h => by have := hb access h; simp [p]; omega
    have hap : ∀ access ∈ after, p access = false := fun access h => by have := ha access h; simp [p]; omega
    obtain ⟨h1, h2⟩ := takeWhile_append_of_all_neg (before ++ l) after hap
    rw [List.takeWhile_append_of_pos hbp] at h1
    rw [List.dropWhile_append_of_pos hbp] at h2
    obtain ⟨d, hd⟩ : ∃ d, d = s.discardedAccess avoid n moment ((before ++ l ++ after).takeWhile p) := ⟨_, rfl⟩
    have hw : d.write = false := by rw [hd]; rfl
    have ht : l.takeWhile p ++ l.dropWhile p = l := List.takeWhile_append_dropWhile
    refine ⟨l.takeWhile p ++ d :: l.dropWhile p, ?_, ?_, ?_, ?_, ?_⟩
    · change (before ++ l ++ after).takeWhile p ++ s.discardedAccess avoid n moment ((before ++ l ++ after).takeWhile p) ::
        (before ++ l ++ after).dropWhile p = _
      rw [← hd, h1, h2]
      simp
    · refine hs.trans ?_
      conv => lhs; rw [← ht]
      exact .append (.refl _) (.cons _ (.refl _))
    · have := congrArg List.length ht
      rw [List.length_append] at this ⊢
      rw [List.length_cons]
      omega
    · intro access h
      rcases List.mem_append.1 h with h | h
      · exact hm _ (ht ▸ List.mem_append_left _ h)
      · rcases List.mem_cons.1 h with h | h
        · exact .inr ⟨n, moment, _, h.trans hd⟩
        · exact hm _ (ht ▸ List.mem_append_right _ h)
    · rw [List.filter_append, List.filter_cons_of_neg (by simp [hw]), ← List.filter_append, ht, hf]

/-- The byte each read of RAM or ROM in a list of accesses returns is what the writes before it leave there (R62). -/
def State.Reads (s : State) (accesses : List BusAccess) : Prop :=
  ∀ before access after, accesses = before ++ access :: after → access.write = false →
    (kindAt s.platform access.addr = .ram ∨ kindAt s.platform access.addr = .rom) →
    access.value = ((s.replay before).upTo access.place).read access.addr

/-- A read put among accesses that read so, itself so, leaves them so. -/
theorem State.Reads.insert {s : State} {before after : List BusAccess} {d : BusAccess} (h : s.Reads (before ++ after))
    (hw : d.write = false) (hd : kindAt s.platform d.addr = .ram ∨ kindAt s.platform d.addr = .rom →
      d.value = ((s.replay before).upTo d.place).read d.addr) : s.Reads (before ++ d :: after) := by
  intro pre access post he ha hk
  rcases List.append_eq_append_iff.1 he with ⟨q, h1, h2⟩ | ⟨q, h1, h2⟩
  · subst h1
    cases q with
    | nil =>
      obtain ⟨rfl, rfl⟩ : d = access ∧ after = post := by simpa using h2
      rw [List.append_nil]; exact hd hk
    | cons x q =>
      obtain ⟨rfl, rfl⟩ : d = x ∧ after = q ++ access :: post := by simpa using h2
      rw [State.replay_append, State.replay_read _ hw, ← State.replay_append]
      exact h (before ++ q) access post (by simp) ha hk
  · subst h1
    cases q with
    | nil =>
      obtain ⟨rfl, rfl⟩ : access = d ∧ post = after := by simpa using h2
      rw [List.append_nil] at hd; exact hd hk
    | cons x q =>
      obtain ⟨rfl, rfl⟩ : access = x ∧ post = q ++ d :: after := by simpa using h2
      exact h pre access (q ++ after) (by simp) ha hk

/-- A read of R76 of RAM or ROM gives the byte that is there then (R62, R76). -/
theorem State.discardedAccess_value (s : State) (avoid : Option Word) (k moment : Nat) (before : List BusAccess)
    (h : kindAt s.platform (s.discardedAccess avoid k moment before).addr = .ram ∨
      kindAt s.platform (s.discardedAccess avoid k moment before).addr = .rom) :
    (s.discardedAccess avoid k moment before).value =
      ((s.replay before).upTo (s.discardedAccess avoid k moment before).place).read
        (s.discardedAccess avoid k moment before).addr := by
  simp only [State.discardedAccess] at h ⊢
  rcases h with h | h <;> simp only [State.supplied, State.upTo_platform, State.replay_platform, h]

/-- It is not made of the address to be avoided (R144 to R147). -/
theorem State.discardedAccess_avoids (s : State) (ea : Word) (k moment : Nat) (before : List BusAccess) :
    (s.discardedAccess (some ea) k moment before).addr ≠ ea := by
  simp only [State.discardedAccess]
  split
  · next h => obtain rfl : ea = _ := by simpa using h
              bv_omega
  · next h => exact fun he => h (by rw [he])

/-- `interleave` keeps what the reads give. -/
theorem State.Reads.interleave {s : State} {accesses : List BusAccess} (h : s.Reads accesses) (avoid : Option Word)
    (first last n : Nat) : s.Reads (s.interleave avoid first last n accesses) := by
  induction n with
  | zero => exact h
  | succ n ih =>
    rw [State.interleave]
    refine State.Reads.insert ?_ rfl (s.discardedAccess_value _ _ _ _)
    rw [List.takeWhile_append_dropWhile]
    exact ih

/-! The accesses of a step -/

/-- Without discarded reads the accesses recorded are those listed. -/
@[simp] theorem State.fillCycles_false (s : State) (avoid : Option Word) (first last cycles : Nat)
    (listed : List BusAccess) : s.fillCycles false avoid first last cycles listed = listed := by
  rw [State.fillCycles, Bool.and_false]; rfl

/-- With discarded reads there is one of R76 for each cycle that the accesses listed leave. -/
theorem State.fillCycles_true (s : State) (avoid : Option Word) (first last cycles : Nat) (listed : List BusAccess) :
    s.fillCycles true avoid first last cycles listed =
      s.interleave avoid first last (cycles - listed.length) listed := by
  by_cases h : listed.length < cycles
  · simp [State.fillCycles, h]
  · rw [Nat.sub_eq_zero_of_le (Nat.le_of_not_lt h), State.interleave]
    simp [State.fillCycles, h]

/-- All that `fillCycles` does, given what stands before the `first` moment and from the `last` on. -/
theorem State.fillCycles_spec (s : State) (dummyReads : Bool) (avoid : Option Word) {first last : Nat}
    (hfl : first ≤ last) (cycles : Nat) (before mid after : List BusAccess)
    (hb : ∀ access ∈ before, 2 * access.place < first) (ha : ∀ access ∈ after, last ≤ 2 * access.place) :
    ∃ mid', s.fillCycles dummyReads avoid first last cycles (before ++ mid ++ after) = before ++ mid' ++ after ∧
      mid.Sublist mid' ∧
      (dummyReads = true → (before ++ mid ++ after).length ≤ cycles → (before ++ mid' ++ after).length = cycles) ∧
      (∀ access ∈ mid', access ∈ mid ∨ ∃ k moment l, access = s.discardedAccess avoid k moment l) ∧
      (mid'.filter fun access => access.write) = mid.filter fun access => access.write := by
  cases dummyReads with
  | false => exact ⟨mid, State.fillCycles_false .., .refl _, nofun, fun _ h => .inl h, rfl⟩
  | true =>
    rw [State.fillCycles_true]
    obtain ⟨mid', h1, h2, h3, h4, h5⟩ := s.interleave_spec avoid hfl (cycles - (before ++ mid ++ after).length)
      before mid after hb ha
    refine ⟨mid', h1, h2, fun _ h => ?_, h4, h5⟩
    simp only [List.length_append] at h h3 ⊢
    omega

/-- The same of all the accesses listed, wherever they stand. -/
theorem State.fillCycles_listed (s : State) (dummyReads : Bool) (avoid : Option Word) {first last : Nat}
    (hfl : first ≤ last) (cycles : Nat) (listed : List BusAccess) :
    let all := s.fillCycles dummyReads avoid first last cycles listed
    listed.Sublist all ∧ (dummyReads = true → listed.length ≤ cycles → all.length = cycles) ∧
      (∀ access ∈ all, access ∈ listed ∨ ∃ k moment l, access = s.discardedAccess avoid k moment l) ∧
      (all.filter fun access => access.write) = listed.filter fun access => access.write := by
  obtain ⟨all, h, hs, hl, hm, hf⟩ := s.fillCycles_spec dummyReads avoid hfl cycles [] listed [] nofun nofun
  simp only [List.nil_append, List.append_nil] at h hl
  rw [h]
  exact ⟨hs, hl, hm, hf⟩

/-- `fillCycles` keeps what the reads give. -/
theorem State.Reads.fillCycles {s : State} {listed : List BusAccess} (h : s.Reads listed) (dummyReads : Bool)
    (avoid : Option Word) (first last cycles : Nat) :
    s.Reads (s.fillCycles dummyReads avoid first last cycles listed) := by
  rw [State.fillCycles]
  split
  · exact State.Reads.interleave h _ _ _ _
  · exact h

end Sys2Proof.Machine
end

