-- ==== Sys2Proof/Laws/Exec.lean ====
section
/-! SUPPORT. Every instruction's meaning is one of the shared meanings: a proof about all 256 constructors is a proof about
these. -/

namespace Sys2Proof.Machine

/-- The shared meanings, started in a state. -/
inductive SharedMeaning (s : State) : Out → Prop where
  | lda (m : Byte) (len : Nat) : SharedMeaning s (Machine.lda m len s)
  | ldx (m : Byte) (len : Nat) : SharedMeaning s (Machine.ldx m len s)
  | ldy (m : Byte) (len : Nat) : SharedMeaning s (Machine.ldy m len s)
  | ldaPulled (m : Byte) (len : Nat) : SharedMeaning s (Machine.lda m len s.pull)
  | ldxPulled (m : Byte) (len : Nat) : SharedMeaning s (Machine.ldx m len s.pull)
  | ldyPulled (m : Byte) (len : Nat) : SharedMeaning s (Machine.ldy m len s.pull)
  | store (v : Byte) (ea : Word) (len : Nat) : SharedMeaning s (Machine.store v ea len s)
  | txs (v : Byte) : SharedMeaning s (Machine.txs v s)
  | adc (m : Byte) (len : Nat) : SharedMeaning s (Machine.adc m len s)
  | sbc (m : Byte) (len : Nat) : SharedMeaning s (Machine.sbc m len s)
  | compare (r m : Byte) (len : Nat) : SharedMeaning s (Machine.compare r m len s)
  | countMem (f : Byte → Byte) (ea : Word) (len : Nat) : SharedMeaning s (Machine.countMem f ea len s)
  | testMem (f : Byte → Byte) (ea : Word) (len : Nat) : SharedMeaning s (Machine.testMem f ea len s)
  | shiftMem (f : Byte → Shifted) (ea : Word) (len : Nat) : SharedMeaning s (Machine.shiftMem f ea len s)
  | shiftAcc (f : Byte → Shifted) : SharedMeaning s (Machine.shiftAcc f s)
  | resetBit (n : Nat) (zp : Byte) : SharedMeaning s (Machine.resetBit n zp s)
  | setBit (n : Nat) (zp : Byte) : SharedMeaning s (Machine.setBit n zp s)
  | bitMem (m : Byte) (len : Nat) : SharedMeaning s (Machine.bitMem m len s)
  | bitImm (m : Byte) (len : Nat) : SharedMeaning s (Machine.bitImm m len s)
  | branch (cond : State → Bool) (len : Nat) (rel : Byte) : SharedMeaning s (Machine.branch cond len rel s)
  | jump (target : Word) : SharedMeaning s (Machine.jump target s)
  | callSubroutine (target : Word) : SharedMeaning s (Machine.callSubroutine target s)
  | returnFromSubroutine : SharedMeaning s (Machine.returnFromSubroutine s)
  | pushByte (v : Byte) : SharedMeaning s (Machine.pushByte v s)
  | setP (p : Flags) : SharedMeaning s (Machine.setP p s)
  | setPPulled (p : Flags) : SharedMeaning s (Machine.setP p s.pull)
  | breakEntry : SharedMeaning s (Machine.breakEntry s)
  | interruptReturn : SharedMeaning s (Machine.interruptReturn s)
  | reserved (op : Byte) : SharedMeaning s (Machine.reserved op s)

/-- What an instruction does is one of the shared meanings. -/
theorem exec_shared (i : Instr) (s : State) : SharedMeaning s (exec i s) := by
  cases i
  case brk => exact .breakEntry
  case oraIndX => exact .lda _ _
  case rsv02 => exact .reserved _
  case rsv03 => exact .reserved _
  case tsbZp => exact .testMem (fun m => m ||| s.a) _ _
  case oraZp => exact .lda _ _
  case aslZp => exact .shiftMem _ _ _
  case rmb0 => exact .resetBit _ _
  case php => exact .pushByte _
  case oraImm => exact .lda _ _
  case aslAcc => exact .shiftAcc _
  case rsv0B => exact .reserved _
  case tsbAbs => exact .testMem (fun m => m ||| s.a) _ _
  case oraAbs => exact .lda _ _
  case aslAbs => exact .shiftMem _ _ _
  case bbr0 => exact .branch _ _ _
  case bpl => exact .branch _ _ _
  case oraIndY => exact .lda _ _
  case oraInd => exact .lda _ _
  case rsv13 => exact .reserved _
  case trbZp => exact .testMem (fun m => m &&& ~~~s.a) _ _
  case oraZpX => exact .lda _ _
  case aslZpX => exact .shiftMem _ _ _
  case rmb1 => exact .resetBit _ _
  case clc => exact .setP _
  case oraAbsY => exact .lda _ _
  case incAcc => exact .lda _ _
  case rsv1B => exact .reserved _
  case trbAbs => exact .testMem (fun m => m &&& ~~~s.a) _ _
  case oraAbsX => exact .lda _ _
  case aslAbsX => exact .shiftMem _ _ _
  case bbr1 => exact .branch _ _ _
  case jsr => exact .callSubroutine _
  case andIndX => exact .lda _ _
  case rsv22 => exact .reserved _
  case rsv23 => exact .reserved _
  case bitZp => exact .bitMem _ _
  case andZp => exact .lda _ _
  case rolZp => exact .shiftMem _ _ _
  case rmb2 => exact .resetBit _ _
  case plp => exact .setPPulled _
  case andImm => exact .lda _ _
  case rolAcc => exact .shiftAcc _
  case rsv2B => exact .reserved _
  case bitAbs => exact .bitMem _ _
  case andAbs => exact .lda _ _
  case rolAbs => exact .shiftMem _ _ _
  case bbr2 => exact .branch _ _ _
  case bmi => exact .branch _ _ _
  case andIndY => exact .lda _ _
  case andInd => exact .lda _ _
  case rsv33 => exact .reserved _
  case bitZpX => exact .bitMem _ _
  case andZpX => exact .lda _ _
  case rolZpX => exact .shiftMem _ _ _
  case rmb3 => exact .resetBit _ _
  case sec => exact .setP _
  case andAbsY => exact .lda _ _
  case decAcc => exact .lda _ _
  case rsv3B => exact .reserved _
  case bitAbsX => exact .bitMem _ _
  case andAbsX => exact .lda _ _
  case rolAbsX => exact .shiftMem _ _ _
  case bbr3 => exact .branch _ _ _
  case rti => exact .interruptReturn
  case eorIndX => exact .lda _ _
  case rsv42 => exact .reserved _
  case rsv43 => exact .reserved _
  case rsv44 => exact .reserved _
  case eorZp => exact .lda _ _
  case lsrZp => exact .shiftMem _ _ _
  case rmb4 => exact .resetBit _ _
  case pha => exact .pushByte _
  case eorImm => exact .lda _ _
  case lsrAcc => exact .shiftAcc _
  case rsv4B => exact .reserved _
  case jmpAbs => exact .jump _
  case eorAbs => exact .lda _ _
  case lsrAbs => exact .shiftMem _ _ _
  case bbr4 => exact .branch _ _ _
  case bvc => exact .branch _ _ _
  case eorIndY => exact .lda _ _
  case eorInd => exact .lda _ _
  case rsv53 => exact .reserved _
  case rsv54 => exact .reserved _
  case eorZpX => exact .lda _ _
  case lsrZpX => exact .shiftMem _ _ _
  case rmb5 => exact .resetBit _ _
  case cli => exact .setP _
  case eorAbsY => exact .lda _ _
  case phy => exact .pushByte _
  case rsv5B => exact .reserved _
  case rsv5C => exact .reserved _
  case eorAbsX => exact .lda _ _
  case lsrAbsX => exact .shiftMem _ _ _
  case bbr5 => exact .branch _ _ _
  case rts => exact .returnFromSubroutine
  case adcIndX => exact .adc _ _
  case rsv62 => exact .reserved _
  case rsv63 => exact .reserved _
  case stzZp => exact .store _ _ _
  case adcZp => exact .adc _ _
  case rorZp => exact .shiftMem _ _ _
  case rmb6 => exact .resetBit _ _
  case pla => exact .ldaPulled _ _
  case adcImm => exact .adc _ _
  case rorAcc => exact .shiftAcc _
  case rsv6B => exact .reserved _
  case jmpInd => exact .jump _
  case adcAbs => exact .adc _ _
  case rorAbs => exact .shiftMem _ _ _
  case bbr6 => exact .branch _ _ _
  case bvs => exact .branch _ _ _
  case adcIndY => exact .adc _ _
  case adcInd => exact .adc _ _
  case rsv73 => exact .reserved _
  case stzZpX => exact .store _ _ _
  case adcZpX => exact .adc _ _
  case rorZpX => exact .shiftMem _ _ _
  case rmb7 => exact .resetBit _ _
  case sei => exact .setP _
  case adcAbsY => exact .adc _ _
  case ply => exact .ldyPulled _ _
  case rsv7B => exact .reserved _
  case jmpIndX => exact .jump _
  case adcAbsX => exact .adc _ _
  case rorAbsX => exact .shiftMem _ _ _
  case bbr7 => exact .branch _ _ _
  case bra => exact .branch _ _ _
  case staIndX => exact .store _ _ _
  case rsv82 => exact .reserved _
  case rsv83 => exact .reserved _
  case styZp => exact .store _ _ _
  case staZp => exact .store _ _ _
  case stxZp => exact .store _ _ _
  case smb0 => exact .setBit _ _
  case dey => exact .ldy _ _
  case bitImm => exact .bitImm _ _
  case txa => exact .lda _ _
  case rsv8B => exact .reserved _
  case styAbs => exact .store _ _ _
  case staAbs => exact .store _ _ _
  case stxAbs => exact .store _ _ _
  case bbs0 => exact .branch _ _ _
  case bcc => exact .branch _ _ _
  case staIndY => exact .store _ _ _
  case staInd => exact .store _ _ _
  case rsv93 => exact .reserved _
  case styZpX => exact .store _ _ _
  case staZpX => exact .store _ _ _
  case stxZpY => exact .store _ _ _
  case smb1 => exact .setBit _ _
  case tya => exact .lda _ _
  case staAbsY => exact .store _ _ _
  case txs => exact .txs _
  case rsv9B => exact .reserved _
  case stzAbs => exact .store _ _ _
  case staAbsX => exact .store _ _ _
  case stzAbsX => exact .store _ _ _
  case bbs1 => exact .branch _ _ _
  case ldyImm => exact .ldy _ _
  case ldaIndX => exact .lda _ _
  case ldxImm => exact .ldx _ _
  case rsvA3 => exact .reserved _
  case ldyZp => exact .ldy _ _
  case ldaZp => exact .lda _ _
  case ldxZp => exact .ldx _ _
  case smb2 => exact .setBit _ _
  case tay => exact .ldy _ _
  case ldaImm => exact .lda _ _
  case tax => exact .ldx _ _
  case rsvAB => exact .reserved _
  case ldyAbs => exact .ldy _ _
  case ldaAbs => exact .lda _ _
  case ldxAbs => exact .ldx _ _
  case bbs2 => exact .branch _ _ _
  case bcs => exact .branch _ _ _
  case ldaIndY => exact .lda _ _
  case ldaInd => exact .lda _ _
  case rsvB3 => exact .reserved _
  case ldyZpX => exact .ldy _ _
  case ldaZpX => exact .lda _ _
  case ldxZpY => exact .ldx _ _
  case smb3 => exact .setBit _ _
  case clv => exact .setP _
  case ldaAbsY => exact .lda _ _
  case tsx => exact .ldx _ _
  case rsvBB => exact .reserved _
  case ldyAbsX => exact .ldy _ _
  case ldaAbsX => exact .lda _ _
  case ldxAbsY => exact .ldx _ _
  case bbs3 => exact .branch _ _ _
  case cpyImm => exact .compare _ _ _
  case cmpIndX => exact .compare _ _ _
  case rsvC2 => exact .reserved _
  case rsvC3 => exact .reserved _
  case cpyZp => exact .compare _ _ _
  case cmpZp => exact .compare _ _ _
  case decZp => exact .countMem _ _ _
  case smb4 => exact .setBit _ _
  case iny => exact .ldy _ _
  case cmpImm => exact .compare _ _ _
  case dex => exact .ldx _ _
  case rsvCB => exact .reserved _
  case cpyAbs => exact .compare _ _ _
  case cmpAbs => exact .compare _ _ _
  case decAbs => exact .countMem _ _ _
  case bbs4 => exact .branch _ _ _
  case bne => exact .branch _ _ _
  case cmpIndY => exact .compare _ _ _
  case cmpInd => exact .compare _ _ _
  case rsvD3 => exact .reserved _
  case rsvD4 => exact .reserved _
  case cmpZpX => exact .compare _ _ _
  case decZpX => exact .countMem _ _ _
  case smb5 => exact .setBit _ _
  case cld => exact .setP _
  case cmpAbsY => exact .compare _ _ _
  case phx => exact .pushByte _
  case rsvDB => exact .reserved _
  case rsvDC => exact .reserved _
  case cmpAbsX => exact .compare _ _ _
  case decAbsX => exact .countMem _ _ _
  case bbs5 => exact .branch _ _ _
  case cpxImm => exact .compare _ _ _
  case sbcIndX => exact .sbc _ _
  case rsvE2 => exact .reserved _
  case rsvE3 => exact .reserved _
  case cpxZp => exact .compare _ _ _
  case sbcZp => exact .sbc _ _
  case incZp => exact .countMem _ _ _
  case smb6 => exact .setBit _ _
  case inx => exact .ldx _ _
  case sbcImm => exact .sbc _ _
  case nop => exact .setP _
  case rsvEB => exact .reserved _
  case cpxAbs => exact .compare _ _ _
  case sbcAbs => exact .sbc _ _
  case incAbs => exact .countMem _ _ _
  case bbs6 => exact .branch _ _ _
  case beq => exact .branch _ _ _
  case sbcIndY => exact .sbc _ _
  case sbcInd => exact .sbc _ _
  case rsvF3 => exact .reserved _
  case rsvF4 => exact .reserved _
  case sbcZpX => exact .sbc _ _
  case incZpX => exact .countMem _ _ _
  case smb7 => exact .setBit _ _
  case sed => exact .setP _
  case sbcAbsY => exact .sbc _ _
  case plx => exact .ldxPulled _ _
  case rsvFB => exact .reserved _
  case rsvFC => exact .reserved _
  case sbcAbsX => exact .sbc _ _
  case incAbsX => exact .countMem _ _ _
  case bbs7 => exact .branch _ _ _

/-- What holds of every shared meaning started in a state holds of every instruction. -/
theorem exec_induction {s : State} {P : Out → Prop} (h : ∀ o, SharedMeaning s o → P o) (i : Instr) : P (exec i s) :=
  h _ (exec_shared i s)

end Sys2Proof.Machine
end

