-- ==== Sys2Proof/Laws/PerInstr.lean ====
section
/-! SUPPORT. Facts proved constructor by constructor: every instruction's encoding is well formed, and the decoder reads
it back (R101, R103). -/

namespace Sys2Proof.Laws

/-- The length of an unassigned op code, as its operand bytes have it (R125, R270). -/
theorem rsvLen_pos (op : Byte) : Config.rsvLen op - 1 + 1 = Config.rsvLen op := rfl

/-- An assigned op code has the length of its format (R103). -/
theorem opLength_assigned {op : Byte} (h : unassigned op = false) : opLength op = (opFormat op).length := by
  simp [opLength, h]

/-- An unassigned op code has the length `RsvLen` (R125, R270). -/
theorem opLength_unassigned {op : Byte} (h : unassigned op = true) : opLength op = Config.rsvLen op := by
  simp [opLength, h]

/-- Every instruction is spelled by one whole well-formed string of bytes. -/
def EncodingFits.Statement (i : Instr) : Prop := wellFormed (encode i) = true

/-- The shape of every lemma below: an op code, how many operand bytes follow it, and the length of its format. -/
theorem fits {i : Instr} (op : Byte) (n : Nat) (hop : opcode i = op) (hn : (operandBytes i).length = n)
    (hf : opLength op = n + 1) : EncodingFits.Statement i := by
  simp [EncodingFits.Statement, encode, wellFormed, hop, hn, hf]

/-- The shape of the lemmas about unassigned op codes. -/
theorem fitsReserved {i : Instr} (op : Byte) (hop : opcode i = op)
    (hn : operandBytes i = List.replicate (Config.rsvLen op - 1) 0x00) (hu : unassigned op = true) :
    EncodingFits.Statement i :=
  fits op _ hop (by rw [hn, List.length_replicate]) (by rw [opLength_unassigned hu, rsvLen_pos])

theorem EncodingFits.brk : EncodingFits.Statement .brk := fits 0x00 0 rfl rfl rfl
theorem EncodingFits.oraIndX (zp : Byte) : EncodingFits.Statement (.oraIndX zp) := fits 0x01 1 rfl rfl rfl
theorem EncodingFits.rsv02 (b1 : Skipped) : EncodingFits.Statement (.rsv02 b1) := fitsReserved 0x02 rfl rfl rfl
theorem EncodingFits.rsv03 : EncodingFits.Statement .rsv03 := fitsReserved 0x03 rfl rfl rfl
theorem EncodingFits.tsbZp (zp : Byte) : EncodingFits.Statement (.tsbZp zp) := fits 0x04 1 rfl rfl rfl
theorem EncodingFits.oraZp (zp : Byte) : EncodingFits.Statement (.oraZp zp) := fits 0x05 1 rfl rfl rfl
theorem EncodingFits.aslZp (zp : Byte) : EncodingFits.Statement (.aslZp zp) := fits 0x06 1 rfl rfl rfl
theorem EncodingFits.rmb0 (zp : Byte) : EncodingFits.Statement (.rmb0 zp) := fits 0x07 1 rfl rfl rfl
theorem EncodingFits.php : EncodingFits.Statement .php := fits 0x08 0 rfl rfl rfl
theorem EncodingFits.oraImm (imm : Byte) : EncodingFits.Statement (.oraImm imm) := fits 0x09 1 rfl rfl rfl
theorem EncodingFits.aslAcc : EncodingFits.Statement .aslAcc := fits 0x0A 0 rfl rfl rfl
theorem EncodingFits.rsv0B : EncodingFits.Statement .rsv0B := fitsReserved 0x0B rfl rfl rfl
theorem EncodingFits.tsbAbs (addr : Word) : EncodingFits.Statement (.tsbAbs addr) := fits 0x0C 2 rfl rfl rfl
theorem EncodingFits.oraAbs (addr : Word) : EncodingFits.Statement (.oraAbs addr) := fits 0x0D 2 rfl rfl rfl
theorem EncodingFits.aslAbs (addr : Word) : EncodingFits.Statement (.aslAbs addr) := fits 0x0E 2 rfl rfl rfl
theorem EncodingFits.bbr0 (zp : Byte) (rel : Byte) : EncodingFits.Statement (.bbr0 zp rel) := fits 0x0F 2 rfl rfl rfl
theorem EncodingFits.bpl (rel : Byte) : EncodingFits.Statement (.bpl rel) := fits 0x10 1 rfl rfl rfl
theorem EncodingFits.oraIndY (zp : Byte) : EncodingFits.Statement (.oraIndY zp) := fits 0x11 1 rfl rfl rfl
theorem EncodingFits.oraInd (zp : Byte) : EncodingFits.Statement (.oraInd zp) := fits 0x12 1 rfl rfl rfl
theorem EncodingFits.rsv13 : EncodingFits.Statement .rsv13 := fitsReserved 0x13 rfl rfl rfl
theorem EncodingFits.trbZp (zp : Byte) : EncodingFits.Statement (.trbZp zp) := fits 0x14 1 rfl rfl rfl
theorem EncodingFits.oraZpX (zp : Byte) : EncodingFits.Statement (.oraZpX zp) := fits 0x15 1 rfl rfl rfl
theorem EncodingFits.aslZpX (zp : Byte) : EncodingFits.Statement (.aslZpX zp) := fits 0x16 1 rfl rfl rfl
theorem EncodingFits.rmb1 (zp : Byte) : EncodingFits.Statement (.rmb1 zp) := fits 0x17 1 rfl rfl rfl
theorem EncodingFits.clc : EncodingFits.Statement .clc := fits 0x18 0 rfl rfl rfl
theorem EncodingFits.oraAbsY (addr : Word) : EncodingFits.Statement (.oraAbsY addr) := fits 0x19 2 rfl rfl rfl
theorem EncodingFits.incAcc : EncodingFits.Statement .incAcc := fits 0x1A 0 rfl rfl rfl
theorem EncodingFits.rsv1B : EncodingFits.Statement .rsv1B := fitsReserved 0x1B rfl rfl rfl
theorem EncodingFits.trbAbs (addr : Word) : EncodingFits.Statement (.trbAbs addr) := fits 0x1C 2 rfl rfl rfl
theorem EncodingFits.oraAbsX (addr : Word) : EncodingFits.Statement (.oraAbsX addr) := fits 0x1D 2 rfl rfl rfl
theorem EncodingFits.aslAbsX (addr : Word) : EncodingFits.Statement (.aslAbsX addr) := fits 0x1E 2 rfl rfl rfl
theorem EncodingFits.bbr1 (zp : Byte) (rel : Byte) : EncodingFits.Statement (.bbr1 zp rel) := fits 0x1F 2 rfl rfl rfl
theorem EncodingFits.jsr (addr : Word) : EncodingFits.Statement (.jsr addr) := fits 0x20 2 rfl rfl rfl
theorem EncodingFits.andIndX (zp : Byte) : EncodingFits.Statement (.andIndX zp) := fits 0x21 1 rfl rfl rfl
theorem EncodingFits.rsv22 (b1 : Skipped) : EncodingFits.Statement (.rsv22 b1) := fitsReserved 0x22 rfl rfl rfl
theorem EncodingFits.rsv23 : EncodingFits.Statement .rsv23 := fitsReserved 0x23 rfl rfl rfl
theorem EncodingFits.bitZp (zp : Byte) : EncodingFits.Statement (.bitZp zp) := fits 0x24 1 rfl rfl rfl
theorem EncodingFits.andZp (zp : Byte) : EncodingFits.Statement (.andZp zp) := fits 0x25 1 rfl rfl rfl
theorem EncodingFits.rolZp (zp : Byte) : EncodingFits.Statement (.rolZp zp) := fits 0x26 1 rfl rfl rfl
theorem EncodingFits.rmb2 (zp : Byte) : EncodingFits.Statement (.rmb2 zp) := fits 0x27 1 rfl rfl rfl
theorem EncodingFits.plp : EncodingFits.Statement .plp := fits 0x28 0 rfl rfl rfl
theorem EncodingFits.andImm (imm : Byte) : EncodingFits.Statement (.andImm imm) := fits 0x29 1 rfl rfl rfl
theorem EncodingFits.rolAcc : EncodingFits.Statement .rolAcc := fits 0x2A 0 rfl rfl rfl
theorem EncodingFits.rsv2B : EncodingFits.Statement .rsv2B := fitsReserved 0x2B rfl rfl rfl
theorem EncodingFits.bitAbs (addr : Word) : EncodingFits.Statement (.bitAbs addr) := fits 0x2C 2 rfl rfl rfl
theorem EncodingFits.andAbs (addr : Word) : EncodingFits.Statement (.andAbs addr) := fits 0x2D 2 rfl rfl rfl
theorem EncodingFits.rolAbs (addr : Word) : EncodingFits.Statement (.rolAbs addr) := fits 0x2E 2 rfl rfl rfl
theorem EncodingFits.bbr2 (zp : Byte) (rel : Byte) : EncodingFits.Statement (.bbr2 zp rel) := fits 0x2F 2 rfl rfl rfl
theorem EncodingFits.bmi (rel : Byte) : EncodingFits.Statement (.bmi rel) := fits 0x30 1 rfl rfl rfl
theorem EncodingFits.andIndY (zp : Byte) : EncodingFits.Statement (.andIndY zp) := fits 0x31 1 rfl rfl rfl
theorem EncodingFits.andInd (zp : Byte) : EncodingFits.Statement (.andInd zp) := fits 0x32 1 rfl rfl rfl
theorem EncodingFits.rsv33 : EncodingFits.Statement .rsv33 := fitsReserved 0x33 rfl rfl rfl
theorem EncodingFits.bitZpX (zp : Byte) : EncodingFits.Statement (.bitZpX zp) := fits 0x34 1 rfl rfl rfl
theorem EncodingFits.andZpX (zp : Byte) : EncodingFits.Statement (.andZpX zp) := fits 0x35 1 rfl rfl rfl
theorem EncodingFits.rolZpX (zp : Byte) : EncodingFits.Statement (.rolZpX zp) := fits 0x36 1 rfl rfl rfl
theorem EncodingFits.rmb3 (zp : Byte) : EncodingFits.Statement (.rmb3 zp) := fits 0x37 1 rfl rfl rfl
theorem EncodingFits.sec : EncodingFits.Statement .sec := fits 0x38 0 rfl rfl rfl
theorem EncodingFits.andAbsY (addr : Word) : EncodingFits.Statement (.andAbsY addr) := fits 0x39 2 rfl rfl rfl
theorem EncodingFits.decAcc : EncodingFits.Statement .decAcc := fits 0x3A 0 rfl rfl rfl
theorem EncodingFits.rsv3B : EncodingFits.Statement .rsv3B := fitsReserved 0x3B rfl rfl rfl
theorem EncodingFits.bitAbsX (addr : Word) : EncodingFits.Statement (.bitAbsX addr) := fits 0x3C 2 rfl rfl rfl
theorem EncodingFits.andAbsX (addr : Word) : EncodingFits.Statement (.andAbsX addr) := fits 0x3D 2 rfl rfl rfl
theorem EncodingFits.rolAbsX (addr : Word) : EncodingFits.Statement (.rolAbsX addr) := fits 0x3E 2 rfl rfl rfl
theorem EncodingFits.bbr3 (zp : Byte) (rel : Byte) : EncodingFits.Statement (.bbr3 zp rel) := fits 0x3F 2 rfl rfl rfl
theorem EncodingFits.rti : EncodingFits.Statement .rti := fits 0x40 0 rfl rfl rfl
theorem EncodingFits.eorIndX (zp : Byte) : EncodingFits.Statement (.eorIndX zp) := fits 0x41 1 rfl rfl rfl
theorem EncodingFits.rsv42 (b1 : Skipped) : EncodingFits.Statement (.rsv42 b1) := fitsReserved 0x42 rfl rfl rfl
theorem EncodingFits.rsv43 : EncodingFits.Statement .rsv43 := fitsReserved 0x43 rfl rfl rfl
theorem EncodingFits.rsv44 (b1 : Skipped) : EncodingFits.Statement (.rsv44 b1) := fitsReserved 0x44 rfl rfl rfl
theorem EncodingFits.eorZp (zp : Byte) : EncodingFits.Statement (.eorZp zp) := fits 0x45 1 rfl rfl rfl
theorem EncodingFits.lsrZp (zp : Byte) : EncodingFits.Statement (.lsrZp zp) := fits 0x46 1 rfl rfl rfl
theorem EncodingFits.rmb4 (zp : Byte) : EncodingFits.Statement (.rmb4 zp) := fits 0x47 1 rfl rfl rfl
theorem EncodingFits.pha : EncodingFits.Statement .pha := fits 0x48 0 rfl rfl rfl
theorem EncodingFits.eorImm (imm : Byte) : EncodingFits.Statement (.eorImm imm) := fits 0x49 1 rfl rfl rfl
theorem EncodingFits.lsrAcc : EncodingFits.Statement .lsrAcc := fits 0x4A 0 rfl rfl rfl
theorem EncodingFits.rsv4B : EncodingFits.Statement .rsv4B := fitsReserved 0x4B rfl rfl rfl
theorem EncodingFits.jmpAbs (addr : Word) : EncodingFits.Statement (.jmpAbs addr) := fits 0x4C 2 rfl rfl rfl
theorem EncodingFits.eorAbs (addr : Word) : EncodingFits.Statement (.eorAbs addr) := fits 0x4D 2 rfl rfl rfl
theorem EncodingFits.lsrAbs (addr : Word) : EncodingFits.Statement (.lsrAbs addr) := fits 0x4E 2 rfl rfl rfl
theorem EncodingFits.bbr4 (zp : Byte) (rel : Byte) : EncodingFits.Statement (.bbr4 zp rel) := fits 0x4F 2 rfl rfl rfl
theorem EncodingFits.bvc (rel : Byte) : EncodingFits.Statement (.bvc rel) := fits 0x50 1 rfl rfl rfl
theorem EncodingFits.eorIndY (zp : Byte) : EncodingFits.Statement (.eorIndY zp) := fits 0x51 1 rfl rfl rfl
theorem EncodingFits.eorInd (zp : Byte) : EncodingFits.Statement (.eorInd zp) := fits 0x52 1 rfl rfl rfl
theorem EncodingFits.rsv53 : EncodingFits.Statement .rsv53 := fitsReserved 0x53 rfl rfl rfl
theorem EncodingFits.rsv54 (b1 : Skipped) : EncodingFits.Statement (.rsv54 b1) := fitsReserved 0x54 rfl rfl rfl
theorem EncodingFits.eorZpX (zp : Byte) : EncodingFits.Statement (.eorZpX zp) := fits 0x55 1 rfl rfl rfl
theorem EncodingFits.lsrZpX (zp : Byte) : EncodingFits.Statement (.lsrZpX zp) := fits 0x56 1 rfl rfl rfl
theorem EncodingFits.rmb5 (zp : Byte) : EncodingFits.Statement (.rmb5 zp) := fits 0x57 1 rfl rfl rfl
theorem EncodingFits.cli : EncodingFits.Statement .cli := fits 0x58 0 rfl rfl rfl
theorem EncodingFits.eorAbsY (addr : Word) : EncodingFits.Statement (.eorAbsY addr) := fits 0x59 2 rfl rfl rfl
theorem EncodingFits.phy : EncodingFits.Statement .phy := fits 0x5A 0 rfl rfl rfl
theorem EncodingFits.rsv5B : EncodingFits.Statement .rsv5B := fitsReserved 0x5B rfl rfl rfl
theorem EncodingFits.rsv5C (b1 : Skipped) (b2 : Skipped) : EncodingFits.Statement (.rsv5C b1 b2) :=
  fitsReserved 0x5C rfl rfl rfl
theorem EncodingFits.eorAbsX (addr : Word) : EncodingFits.Statement (.eorAbsX addr) := fits 0x5D 2 rfl rfl rfl
theorem EncodingFits.lsrAbsX (addr : Word) : EncodingFits.Statement (.lsrAbsX addr) := fits 0x5E 2 rfl rfl rfl
theorem EncodingFits.bbr5 (zp : Byte) (rel : Byte) : EncodingFits.Statement (.bbr5 zp rel) := fits 0x5F 2 rfl rfl rfl
theorem EncodingFits.rts : EncodingFits.Statement .rts := fits 0x60 0 rfl rfl rfl
theorem EncodingFits.adcIndX (zp : Byte) : EncodingFits.Statement (.adcIndX zp) := fits 0x61 1 rfl rfl rfl
theorem EncodingFits.rsv62 (b1 : Skipped) : EncodingFits.Statement (.rsv62 b1) := fitsReserved 0x62 rfl rfl rfl
theorem EncodingFits.rsv63 : EncodingFits.Statement .rsv63 := fitsReserved 0x63 rfl rfl rfl
theorem EncodingFits.stzZp (zp : Byte) : EncodingFits.Statement (.stzZp zp) := fits 0x64 1 rfl rfl rfl
theorem EncodingFits.adcZp (zp : Byte) : EncodingFits.Statement (.adcZp zp) := fits 0x65 1 rfl rfl rfl
theorem EncodingFits.rorZp (zp : Byte) : EncodingFits.Statement (.rorZp zp) := fits 0x66 1 rfl rfl rfl
theorem EncodingFits.rmb6 (zp : Byte) : EncodingFits.Statement (.rmb6 zp) := fits 0x67 1 rfl rfl rfl
theorem EncodingFits.pla : EncodingFits.Statement .pla := fits 0x68 0 rfl rfl rfl
theorem EncodingFits.adcImm (imm : Byte) : EncodingFits.Statement (.adcImm imm) := fits 0x69 1 rfl rfl rfl
theorem EncodingFits.rorAcc : EncodingFits.Statement .rorAcc := fits 0x6A 0 rfl rfl rfl
theorem EncodingFits.rsv6B : EncodingFits.Statement .rsv6B := fitsReserved 0x6B rfl rfl rfl
theorem EncodingFits.jmpInd (addr : Word) : EncodingFits.Statement (.jmpInd addr) := fits 0x6C 2 rfl rfl rfl
theorem EncodingFits.adcAbs (addr : Word) : EncodingFits.Statement (.adcAbs addr) := fits 0x6D 2 rfl rfl rfl
theorem EncodingFits.rorAbs (addr : Word) : EncodingFits.Statement (.rorAbs addr) := fits 0x6E 2 rfl rfl rfl
theorem EncodingFits.bbr6 (zp : Byte) (rel : Byte) : EncodingFits.Statement (.bbr6 zp rel) := fits 0x6F 2 rfl rfl rfl
theorem EncodingFits.bvs (rel : Byte) : EncodingFits.Statement (.bvs rel) := fits 0x70 1 rfl rfl rfl
theorem EncodingFits.adcIndY (zp : Byte) : EncodingFits.Statement (.adcIndY zp) := fits 0x71 1 rfl rfl rfl
theorem EncodingFits.adcInd (zp : Byte) : EncodingFits.Statement (.adcInd zp) := fits 0x72 1 rfl rfl rfl
theorem EncodingFits.rsv73 : EncodingFits.Statement .rsv73 := fitsReserved 0x73 rfl rfl rfl
theorem EncodingFits.stzZpX (zp : Byte) : EncodingFits.Statement (.stzZpX zp) := fits 0x74 1 rfl rfl rfl
theorem EncodingFits.adcZpX (zp : Byte) : EncodingFits.Statement (.adcZpX zp) := fits 0x75 1 rfl rfl rfl
theorem EncodingFits.rorZpX (zp : Byte) : EncodingFits.Statement (.rorZpX zp) := fits 0x76 1 rfl rfl rfl
theorem EncodingFits.rmb7 (zp : Byte) : EncodingFits.Statement (.rmb7 zp) := fits 0x77 1 rfl rfl rfl
theorem EncodingFits.sei : EncodingFits.Statement .sei := fits 0x78 0 rfl rfl rfl
theorem EncodingFits.adcAbsY (addr : Word) : EncodingFits.Statement (.adcAbsY addr) := fits 0x79 2 rfl rfl rfl
theorem EncodingFits.ply : EncodingFits.Statement .ply := fits 0x7A 0 rfl rfl rfl
theorem EncodingFits.rsv7B : EncodingFits.Statement .rsv7B := fitsReserved 0x7B rfl rfl rfl
theorem EncodingFits.jmpIndX (addr : Word) : EncodingFits.Statement (.jmpIndX addr) := fits 0x7C 2 rfl rfl rfl
theorem EncodingFits.adcAbsX (addr : Word) : EncodingFits.Statement (.adcAbsX addr) := fits 0x7D 2 rfl rfl rfl
theorem EncodingFits.rorAbsX (addr : Word) : EncodingFits.Statement (.rorAbsX addr) := fits 0x7E 2 rfl rfl rfl
theorem EncodingFits.bbr7 (zp : Byte) (rel : Byte) : EncodingFits.Statement (.bbr7 zp rel) := fits 0x7F 2 rfl rfl rfl
theorem EncodingFits.bra (rel : Byte) : EncodingFits.Statement (.bra rel) := fits 0x80 1 rfl rfl rfl
theorem EncodingFits.staIndX (zp : Byte) : EncodingFits.Statement (.staIndX zp) := fits 0x81 1 rfl rfl rfl
theorem EncodingFits.rsv82 (b1 : Skipped) : EncodingFits.Statement (.rsv82 b1) := fitsReserved 0x82 rfl rfl rfl
theorem EncodingFits.rsv83 : EncodingFits.Statement .rsv83 := fitsReserved 0x83 rfl rfl rfl
theorem EncodingFits.styZp (zp : Byte) : EncodingFits.Statement (.styZp zp) := fits 0x84 1 rfl rfl rfl
theorem EncodingFits.staZp (zp : Byte) : EncodingFits.Statement (.staZp zp) := fits 0x85 1 rfl rfl rfl
theorem EncodingFits.stxZp (zp : Byte) : EncodingFits.Statement (.stxZp zp) := fits 0x86 1 rfl rfl rfl
theorem EncodingFits.smb0 (zp : Byte) : EncodingFits.Statement (.smb0 zp) := fits 0x87 1 rfl rfl rfl
theorem EncodingFits.dey : EncodingFits.Statement .dey := fits 0x88 0 rfl rfl rfl
theorem EncodingFits.bitImm (imm : Byte) : EncodingFits.Statement (.bitImm imm) := fits 0x89 1 rfl rfl rfl
theorem EncodingFits.txa : EncodingFits.Statement .txa := fits 0x8A 0 rfl rfl rfl
theorem EncodingFits.rsv8B : EncodingFits.Statement .rsv8B := fitsReserved 0x8B rfl rfl rfl
theorem EncodingFits.styAbs (addr : Word) : EncodingFits.Statement (.styAbs addr) := fits 0x8C 2 rfl rfl rfl
theorem EncodingFits.staAbs (addr : Word) : EncodingFits.Statement (.staAbs addr) := fits 0x8D 2 rfl rfl rfl
theorem EncodingFits.stxAbs (addr : Word) : EncodingFits.Statement (.stxAbs addr) := fits 0x8E 2 rfl rfl rfl
theorem EncodingFits.bbs0 (zp : Byte) (rel : Byte) : EncodingFits.Statement (.bbs0 zp rel) := fits 0x8F 2 rfl rfl rfl
theorem EncodingFits.bcc (rel : Byte) : EncodingFits.Statement (.bcc rel) := fits 0x90 1 rfl rfl rfl
theorem EncodingFits.staIndY (zp : Byte) : EncodingFits.Statement (.staIndY zp) := fits 0x91 1 rfl rfl rfl
theorem EncodingFits.staInd (zp : Byte) : EncodingFits.Statement (.staInd zp) := fits 0x92 1 rfl rfl rfl
theorem EncodingFits.rsv93 : EncodingFits.Statement .rsv93 := fitsReserved 0x93 rfl rfl rfl
theorem EncodingFits.styZpX (zp : Byte) : EncodingFits.Statement (.styZpX zp) := fits 0x94 1 rfl rfl rfl
theorem EncodingFits.staZpX (zp : Byte) : EncodingFits.Statement (.staZpX zp) := fits 0x95 1 rfl rfl rfl
theorem EncodingFits.stxZpY (zp : Byte) : EncodingFits.Statement (.stxZpY zp) := fits 0x96 1 rfl rfl rfl
theorem EncodingFits.smb1 (zp : Byte) : EncodingFits.Statement (.smb1 zp) := fits 0x97 1 rfl rfl rfl
theorem EncodingFits.tya : EncodingFits.Statement .tya := fits 0x98 0 rfl rfl rfl
theorem EncodingFits.staAbsY (addr : Word) : EncodingFits.Statement (.staAbsY addr) := fits 0x99 2 rfl rfl rfl
theorem EncodingFits.txs : EncodingFits.Statement .txs := fits 0x9A 0 rfl rfl rfl
theorem EncodingFits.rsv9B : EncodingFits.Statement .rsv9B := fitsReserved 0x9B rfl rfl rfl
theorem EncodingFits.stzAbs (addr : Word) : EncodingFits.Statement (.stzAbs addr) := fits 0x9C 2 rfl rfl rfl
theorem EncodingFits.staAbsX (addr : Word) : EncodingFits.Statement (.staAbsX addr) := fits 0x9D 2 rfl rfl rfl
theorem EncodingFits.stzAbsX (addr : Word) : EncodingFits.Statement (.stzAbsX addr) := fits 0x9E 2 rfl rfl rfl
theorem EncodingFits.bbs1 (zp : Byte) (rel : Byte) : EncodingFits.Statement (.bbs1 zp rel) := fits 0x9F 2 rfl rfl rfl
theorem EncodingFits.ldyImm (imm : Byte) : EncodingFits.Statement (.ldyImm imm) := fits 0xA0 1 rfl rfl rfl
theorem EncodingFits.ldaIndX (zp : Byte) : EncodingFits.Statement (.ldaIndX zp) := fits 0xA1 1 rfl rfl rfl
theorem EncodingFits.ldxImm (imm : Byte) : EncodingFits.Statement (.ldxImm imm) := fits 0xA2 1 rfl rfl rfl
theorem EncodingFits.rsvA3 : EncodingFits.Statement .rsvA3 := fitsReserved 0xA3 rfl rfl rfl
theorem EncodingFits.ldyZp (zp : Byte) : EncodingFits.Statement (.ldyZp zp) := fits 0xA4 1 rfl rfl rfl
theorem EncodingFits.ldaZp (zp : Byte) : EncodingFits.Statement (.ldaZp zp) := fits 0xA5 1 rfl rfl rfl
theorem EncodingFits.ldxZp (zp : Byte) : EncodingFits.Statement (.ldxZp zp) := fits 0xA6 1 rfl rfl rfl
theorem EncodingFits.smb2 (zp : Byte) : EncodingFits.Statement (.smb2 zp) := fits 0xA7 1 rfl rfl rfl
theorem EncodingFits.tay : EncodingFits.Statement .tay := fits 0xA8 0 rfl rfl rfl
theorem EncodingFits.ldaImm (imm : Byte) : EncodingFits.Statement (.ldaImm imm) := fits 0xA9 1 rfl rfl rfl
theorem EncodingFits.tax : EncodingFits.Statement .tax := fits 0xAA 0 rfl rfl rfl
theorem EncodingFits.rsvAB : EncodingFits.Statement .rsvAB := fitsReserved 0xAB rfl rfl rfl
theorem EncodingFits.ldyAbs (addr : Word) : EncodingFits.Statement (.ldyAbs addr) := fits 0xAC 2 rfl rfl rfl
theorem EncodingFits.ldaAbs (addr : Word) : EncodingFits.Statement (.ldaAbs addr) := fits 0xAD 2 rfl rfl rfl
theorem EncodingFits.ldxAbs (addr : Word) : EncodingFits.Statement (.ldxAbs addr) := fits 0xAE 2 rfl rfl rfl
theorem EncodingFits.bbs2 (zp : Byte) (rel : Byte) : EncodingFits.Statement (.bbs2 zp rel) := fits 0xAF 2 rfl rfl rfl
theorem EncodingFits.bcs (rel : Byte) : EncodingFits.Statement (.bcs rel) := fits 0xB0 1 rfl rfl rfl
theorem EncodingFits.ldaIndY (zp : Byte) : EncodingFits.Statement (.ldaIndY zp) := fits 0xB1 1 rfl rfl rfl
theorem EncodingFits.ldaInd (zp : Byte) : EncodingFits.Statement (.ldaInd zp) := fits 0xB2 1 rfl rfl rfl
theorem EncodingFits.rsvB3 : EncodingFits.Statement .rsvB3 := fitsReserved 0xB3 rfl rfl rfl
theorem EncodingFits.ldyZpX (zp : Byte) : EncodingFits.Statement (.ldyZpX zp) := fits 0xB4 1 rfl rfl rfl
theorem EncodingFits.ldaZpX (zp : Byte) : EncodingFits.Statement (.ldaZpX zp) := fits 0xB5 1 rfl rfl rfl
theorem EncodingFits.ldxZpY (zp : Byte) : EncodingFits.Statement (.ldxZpY zp) := fits 0xB6 1 rfl rfl rfl
theorem EncodingFits.smb3 (zp : Byte) : EncodingFits.Statement (.smb3 zp) := fits 0xB7 1 rfl rfl rfl
theorem EncodingFits.clv : EncodingFits.Statement .clv := fits 0xB8 0 rfl rfl rfl
theorem EncodingFits.ldaAbsY (addr : Word) : EncodingFits.Statement (.ldaAbsY addr) := fits 0xB9 2 rfl rfl rfl
theorem EncodingFits.tsx : EncodingFits.Statement .tsx := fits 0xBA 0 rfl rfl rfl
theorem EncodingFits.rsvBB : EncodingFits.Statement .rsvBB := fitsReserved 0xBB rfl rfl rfl
theorem EncodingFits.ldyAbsX (addr : Word) : EncodingFits.Statement (.ldyAbsX addr) := fits 0xBC 2 rfl rfl rfl
theorem EncodingFits.ldaAbsX (addr : Word) : EncodingFits.Statement (.ldaAbsX addr) := fits 0xBD 2 rfl rfl rfl
theorem EncodingFits.ldxAbsY (addr : Word) : EncodingFits.Statement (.ldxAbsY addr) := fits 0xBE 2 rfl rfl rfl
theorem EncodingFits.bbs3 (zp : Byte) (rel : Byte) : EncodingFits.Statement (.bbs3 zp rel) := fits 0xBF 2 rfl rfl rfl
theorem EncodingFits.cpyImm (imm : Byte) : EncodingFits.Statement (.cpyImm imm) := fits 0xC0 1 rfl rfl rfl
theorem EncodingFits.cmpIndX (zp : Byte) : EncodingFits.Statement (.cmpIndX zp) := fits 0xC1 1 rfl rfl rfl
theorem EncodingFits.rsvC2 (b1 : Skipped) : EncodingFits.Statement (.rsvC2 b1) := fitsReserved 0xC2 rfl rfl rfl
theorem EncodingFits.rsvC3 : EncodingFits.Statement .rsvC3 := fitsReserved 0xC3 rfl rfl rfl
theorem EncodingFits.cpyZp (zp : Byte) : EncodingFits.Statement (.cpyZp zp) := fits 0xC4 1 rfl rfl rfl
theorem EncodingFits.cmpZp (zp : Byte) : EncodingFits.Statement (.cmpZp zp) := fits 0xC5 1 rfl rfl rfl
theorem EncodingFits.decZp (zp : Byte) : EncodingFits.Statement (.decZp zp) := fits 0xC6 1 rfl rfl rfl
theorem EncodingFits.smb4 (zp : Byte) : EncodingFits.Statement (.smb4 zp) := fits 0xC7 1 rfl rfl rfl
theorem EncodingFits.iny : EncodingFits.Statement .iny := fits 0xC8 0 rfl rfl rfl
theorem EncodingFits.cmpImm (imm : Byte) : EncodingFits.Statement (.cmpImm imm) := fits 0xC9 1 rfl rfl rfl
theorem EncodingFits.dex : EncodingFits.Statement .dex := fits 0xCA 0 rfl rfl rfl
theorem EncodingFits.rsvCB : EncodingFits.Statement .rsvCB := fitsReserved 0xCB rfl rfl rfl
theorem EncodingFits.cpyAbs (addr : Word) : EncodingFits.Statement (.cpyAbs addr) := fits 0xCC 2 rfl rfl rfl
theorem EncodingFits.cmpAbs (addr : Word) : EncodingFits.Statement (.cmpAbs addr) := fits 0xCD 2 rfl rfl rfl
theorem EncodingFits.decAbs (addr : Word) : EncodingFits.Statement (.decAbs addr) := fits 0xCE 2 rfl rfl rfl
theorem EncodingFits.bbs4 (zp : Byte) (rel : Byte) : EncodingFits.Statement (.bbs4 zp rel) := fits 0xCF 2 rfl rfl rfl
theorem EncodingFits.bne (rel : Byte) : EncodingFits.Statement (.bne rel) := fits 0xD0 1 rfl rfl rfl
theorem EncodingFits.cmpIndY (zp : Byte) : EncodingFits.Statement (.cmpIndY zp) := fits 0xD1 1 rfl rfl rfl
theorem EncodingFits.cmpInd (zp : Byte) : EncodingFits.Statement (.cmpInd zp) := fits 0xD2 1 rfl rfl rfl
theorem EncodingFits.rsvD3 : EncodingFits.Statement .rsvD3 := fitsReserved 0xD3 rfl rfl rfl
theorem EncodingFits.rsvD4 (b1 : Skipped) : EncodingFits.Statement (.rsvD4 b1) := fitsReserved 0xD4 rfl rfl rfl
theorem EncodingFits.cmpZpX (zp : Byte) : EncodingFits.Statement (.cmpZpX zp) := fits 0xD5 1 rfl rfl rfl
theorem EncodingFits.decZpX (zp : Byte) : EncodingFits.Statement (.decZpX zp) := fits 0xD6 1 rfl rfl rfl
theorem EncodingFits.smb5 (zp : Byte) : EncodingFits.Statement (.smb5 zp) := fits 0xD7 1 rfl rfl rfl
theorem EncodingFits.cld : EncodingFits.Statement .cld := fits 0xD8 0 rfl rfl rfl
theorem EncodingFits.cmpAbsY (addr : Word) : EncodingFits.Statement (.cmpAbsY addr) := fits 0xD9 2 rfl rfl rfl
theorem EncodingFits.phx : EncodingFits.Statement .phx := fits 0xDA 0 rfl rfl rfl
theorem EncodingFits.rsvDB : EncodingFits.Statement .rsvDB := fitsReserved 0xDB rfl rfl rfl
theorem EncodingFits.rsvDC (b1 : Skipped) (b2 : Skipped) : EncodingFits.Statement (.rsvDC b1 b2) :=
  fitsReserved 0xDC rfl rfl rfl
theorem EncodingFits.cmpAbsX (addr : Word) : EncodingFits.Statement (.cmpAbsX addr) := fits 0xDD 2 rfl rfl rfl
theorem EncodingFits.decAbsX (addr : Word) : EncodingFits.Statement (.decAbsX addr) := fits 0xDE 2 rfl rfl rfl
theorem EncodingFits.bbs5 (zp : Byte) (rel : Byte) : EncodingFits.Statement (.bbs5 zp rel) := fits 0xDF 2 rfl rfl rfl
theorem EncodingFits.cpxImm (imm : Byte) : EncodingFits.Statement (.cpxImm imm) := fits 0xE0 1 rfl rfl rfl
theorem EncodingFits.sbcIndX (zp : Byte) : EncodingFits.Statement (.sbcIndX zp) := fits 0xE1 1 rfl rfl rfl
theorem EncodingFits.rsvE2 (b1 : Skipped) : EncodingFits.Statement (.rsvE2 b1) := fitsReserved 0xE2 rfl rfl rfl
theorem EncodingFits.rsvE3 : EncodingFits.Statement .rsvE3 := fitsReserved 0xE3 rfl rfl rfl
theorem EncodingFits.cpxZp (zp : Byte) : EncodingFits.Statement (.cpxZp zp) := fits 0xE4 1 rfl rfl rfl
theorem EncodingFits.sbcZp (zp : Byte) : EncodingFits.Statement (.sbcZp zp) := fits 0xE5 1 rfl rfl rfl
theorem EncodingFits.incZp (zp : Byte) : EncodingFits.Statement (.incZp zp) := fits 0xE6 1 rfl rfl rfl
theorem EncodingFits.smb6 (zp : Byte) : EncodingFits.Statement (.smb6 zp) := fits 0xE7 1 rfl rfl rfl
theorem EncodingFits.inx : EncodingFits.Statement .inx := fits 0xE8 0 rfl rfl rfl
theorem EncodingFits.sbcImm (imm : Byte) : EncodingFits.Statement (.sbcImm imm) := fits 0xE9 1 rfl rfl rfl
theorem EncodingFits.nop : EncodingFits.Statement .nop := fits 0xEA 0 rfl rfl rfl
theorem EncodingFits.rsvEB : EncodingFits.Statement .rsvEB := fitsReserved 0xEB rfl rfl rfl
theorem EncodingFits.cpxAbs (addr : Word) : EncodingFits.Statement (.cpxAbs addr) := fits 0xEC 2 rfl rfl rfl
theorem EncodingFits.sbcAbs (addr : Word) : EncodingFits.Statement (.sbcAbs addr) := fits 0xED 2 rfl rfl rfl
theorem EncodingFits.incAbs (addr : Word) : EncodingFits.Statement (.incAbs addr) := fits 0xEE 2 rfl rfl rfl
theorem EncodingFits.bbs6 (zp : Byte) (rel : Byte) : EncodingFits.Statement (.bbs6 zp rel) := fits 0xEF 2 rfl rfl rfl
theorem EncodingFits.beq (rel : Byte) : EncodingFits.Statement (.beq rel) := fits 0xF0 1 rfl rfl rfl
theorem EncodingFits.sbcIndY (zp : Byte) : EncodingFits.Statement (.sbcIndY zp) := fits 0xF1 1 rfl rfl rfl
theorem EncodingFits.sbcInd (zp : Byte) : EncodingFits.Statement (.sbcInd zp) := fits 0xF2 1 rfl rfl rfl
theorem EncodingFits.rsvF3 : EncodingFits.Statement .rsvF3 := fitsReserved 0xF3 rfl rfl rfl
theorem EncodingFits.rsvF4 (b1 : Skipped) : EncodingFits.Statement (.rsvF4 b1) := fitsReserved 0xF4 rfl rfl rfl
theorem EncodingFits.sbcZpX (zp : Byte) : EncodingFits.Statement (.sbcZpX zp) := fits 0xF5 1 rfl rfl rfl
theorem EncodingFits.incZpX (zp : Byte) : EncodingFits.Statement (.incZpX zp) := fits 0xF6 1 rfl rfl rfl
theorem EncodingFits.smb7 (zp : Byte) : EncodingFits.Statement (.smb7 zp) := fits 0xF7 1 rfl rfl rfl
theorem EncodingFits.sed : EncodingFits.Statement .sed := fits 0xF8 0 rfl rfl rfl
theorem EncodingFits.sbcAbsY (addr : Word) : EncodingFits.Statement (.sbcAbsY addr) := fits 0xF9 2 rfl rfl rfl
theorem EncodingFits.plx : EncodingFits.Statement .plx := fits 0xFA 0 rfl rfl rfl
theorem EncodingFits.rsvFB : EncodingFits.Statement .rsvFB := fitsReserved 0xFB rfl rfl rfl
theorem EncodingFits.rsvFC (b1 : Skipped) (b2 : Skipped) : EncodingFits.Statement (.rsvFC b1 b2) :=
  fitsReserved 0xFC rfl rfl rfl
theorem EncodingFits.sbcAbsX (addr : Word) : EncodingFits.Statement (.sbcAbsX addr) := fits 0xFD 2 rfl rfl rfl
theorem EncodingFits.incAbsX (addr : Word) : EncodingFits.Statement (.incAbsX addr) := fits 0xFE 2 rfl rfl rfl
theorem EncodingFits.bbs7 (zp : Byte) (rel : Byte) : EncodingFits.Statement (.bbs7 zp rel) := fits 0xFF 2 rfl rfl rfl

/-- The decoder reads an instruction back from its op code and operand bytes, and gives its op code the length of its
encoding. -/
def DecodesBack.Statement (i : Instr) : Prop :=
  decodeOp (opcode i) ((operandBytes i).getD 0 0) ((operandBytes i).getD 1 0) = i ∧
    opLength (opcode i) = (encode i).length

/-- The shape of every lemma below. -/
theorem decodesBack {i : Instr} (op b1 b2 : Byte) (hop : opcode i = op) (h1 : (operandBytes i).getD 0 0 = b1)
    (h2 : (operandBytes i).getD 1 0 = b2) (h : decodeOp op b1 b2 = i) (hl : opLength op = (operandBytes i).length + 1) :
    DecodesBack.Statement i := by
  subst hop h1 h2
  exact ⟨h, hl⟩

/-- The shape of the lemmas about unassigned op codes. -/
theorem decodesBackReserved {i : Instr} (op : Byte) (hop : opcode i = op)
    (hn : operandBytes i = List.replicate (Config.rsvLen op - 1) 0x00) (hu : unassigned op = true)
    (h : ∀ b1 b2, decodeOp op b1 b2 = i) : DecodesBack.Statement i :=
  decodesBack op _ _ hop rfl rfl (h _ _) (by rw [opLength_unassigned hu, hn, List.length_replicate, rsvLen_pos])

theorem DecodesBack.brk : DecodesBack.Statement .brk := decodesBack 0x00 0 0 rfl rfl rfl rfl rfl
theorem DecodesBack.oraIndX (zp : Byte) : DecodesBack.Statement (.oraIndX zp) :=
  decodesBack 0x01 zp 0 rfl rfl rfl rfl rfl
theorem DecodesBack.rsv02 (b1 : Skipped) : DecodesBack.Statement (.rsv02 b1) :=
  decodesBackReserved 0x02 rfl rfl rfl fun _ _ => rfl
theorem DecodesBack.rsv03 : DecodesBack.Statement .rsv03 := decodesBackReserved 0x03 rfl rfl rfl fun _ _ => rfl
theorem DecodesBack.tsbZp (zp : Byte) : DecodesBack.Statement (.tsbZp zp) := decodesBack 0x04 zp 0 rfl rfl rfl rfl rfl
theorem DecodesBack.oraZp (zp : Byte) : DecodesBack.Statement (.oraZp zp) := decodesBack 0x05 zp 0 rfl rfl rfl rfl rfl
theorem DecodesBack.aslZp (zp : Byte) : DecodesBack.Statement (.aslZp zp) := decodesBack 0x06 zp 0 rfl rfl rfl rfl rfl
theorem DecodesBack.rmb0 (zp : Byte) : DecodesBack.Statement (.rmb0 zp) := decodesBack 0x07 zp 0 rfl rfl rfl rfl rfl
theorem DecodesBack.php : DecodesBack.Statement .php := decodesBack 0x08 0 0 rfl rfl rfl rfl rfl
theorem DecodesBack.oraImm (imm : Byte) : DecodesBack.Statement (.oraImm imm) :=
  decodesBack 0x09 imm 0 rfl rfl rfl rfl rfl
theorem DecodesBack.aslAcc : DecodesBack.Statement .aslAcc := decodesBack 0x0A 0 0 rfl rfl rfl rfl rfl
theorem DecodesBack.rsv0B : DecodesBack.Statement .rsv0B := decodesBackReserved 0x0B rfl rfl rfl fun _ _ => rfl
theorem DecodesBack.tsbAbs (addr : Word) : DecodesBack.Statement (.tsbAbs addr) :=
  decodesBack 0x0C (lowByte addr) (highByte addr) rfl rfl rfl
    (congrArg Instr.tsbAbs (Machine.wordOf_lowByte_highByte addr)) rfl
theorem DecodesBack.oraAbs (addr : Word) : DecodesBack.Statement (.oraAbs addr) :=
  decodesBack 0x0D (lowByte addr) (highByte addr) rfl rfl rfl
    (congrArg Instr.oraAbs (Machine.wordOf_lowByte_highByte addr)) rfl
theorem DecodesBack.aslAbs (addr : Word) : DecodesBack.Statement (.aslAbs addr) :=
  decodesBack 0x0E (lowByte addr) (highByte addr) rfl rfl rfl
    (congrArg Instr.aslAbs (Machine.wordOf_lowByte_highByte addr)) rfl
theorem DecodesBack.bbr0 (zp : Byte) (rel : Byte) : DecodesBack.Statement (.bbr0 zp rel) :=
  decodesBack 0x0F zp rel rfl rfl rfl rfl rfl
theorem DecodesBack.bpl (rel : Byte) : DecodesBack.Statement (.bpl rel) := decodesBack 0x10 rel 0 rfl rfl rfl rfl rfl
theorem DecodesBack.oraIndY (zp : Byte) : DecodesBack.Statement (.oraIndY zp) :=
  decodesBack 0x11 zp 0 rfl rfl rfl rfl rfl
theorem DecodesBack.oraInd (zp : Byte) : DecodesBack.Statement (.oraInd zp) :=
  decodesBack 0x12 zp 0 rfl rfl rfl rfl rfl
theorem DecodesBack.rsv13 : DecodesBack.Statement .rsv13 := decodesBackReserved 0x13 rfl rfl rfl fun _ _ => rfl
theorem DecodesBack.trbZp (zp : Byte) : DecodesBack.Statement (.trbZp zp) := decodesBack 0x14 zp 0 rfl rfl rfl rfl rfl
theorem DecodesBack.oraZpX (zp : Byte) : DecodesBack.Statement (.oraZpX zp) :=
  decodesBack 0x15 zp 0 rfl rfl rfl rfl rfl
theorem DecodesBack.aslZpX (zp : Byte) : DecodesBack.Statement (.aslZpX zp) :=
  decodesBack 0x16 zp 0 rfl rfl rfl rfl rfl
theorem DecodesBack.rmb1 (zp : Byte) : DecodesBack.Statement (.rmb1 zp) := decodesBack 0x17 zp 0 rfl rfl rfl rfl rfl
theorem DecodesBack.clc : DecodesBack.Statement .clc := decodesBack 0x18 0 0 rfl rfl rfl rfl rfl
theorem DecodesBack.oraAbsY (addr : Word) : DecodesBack.Statement (.oraAbsY addr) :=
  decodesBack 0x19 (lowByte addr) (highByte addr) rfl rfl rfl
    (congrArg Instr.oraAbsY (Machine.wordOf_lowByte_highByte addr)) rfl
theorem DecodesBack.incAcc : DecodesBack.Statement .incAcc := decodesBack 0x1A 0 0 rfl rfl rfl rfl rfl
theorem DecodesBack.rsv1B : DecodesBack.Statement .rsv1B := decodesBackReserved 0x1B rfl rfl rfl fun _ _ => rfl
theorem DecodesBack.trbAbs (addr : Word) : DecodesBack.Statement (.trbAbs addr) :=
  decodesBack 0x1C (lowByte addr) (highByte addr) rfl rfl rfl
    (congrArg Instr.trbAbs (Machine.wordOf_lowByte_highByte addr)) rfl
theorem DecodesBack.oraAbsX (addr : Word) : DecodesBack.Statement (.oraAbsX addr) :=
  decodesBack 0x1D (lowByte addr) (highByte addr) rfl rfl rfl
    (congrArg Instr.oraAbsX (Machine.wordOf_lowByte_highByte addr)) rfl
theorem DecodesBack.aslAbsX (addr : Word) : DecodesBack.Statement (.aslAbsX addr) :=
  decodesBack 0x1E (lowByte addr) (highByte addr) rfl rfl rfl
    (congrArg Instr.aslAbsX (Machine.wordOf_lowByte_highByte addr)) rfl
theorem DecodesBack.bbr1 (zp : Byte) (rel : Byte) : DecodesBack.Statement (.bbr1 zp rel) :=
  decodesBack 0x1F zp rel rfl rfl rfl rfl rfl
theorem DecodesBack.jsr (addr : Word) : DecodesBack.Statement (.jsr addr) :=
  decodesBack 0x20 (lowByte addr) (highByte addr) rfl rfl rfl
    (congrArg Instr.jsr (Machine.wordOf_lowByte_highByte addr)) rfl
theorem DecodesBack.andIndX (zp : Byte) : DecodesBack.Statement (.andIndX zp) :=
  decodesBack 0x21 zp 0 rfl rfl rfl rfl rfl
theorem DecodesBack.rsv22 (b1 : Skipped) : DecodesBack.Statement (.rsv22 b1) :=
  decodesBackReserved 0x22 rfl rfl rfl fun _ _ => rfl
theorem DecodesBack.rsv23 : DecodesBack.Statement .rsv23 := decodesBackReserved 0x23 rfl rfl rfl fun _ _ => rfl
theorem DecodesBack.bitZp (zp : Byte) : DecodesBack.Statement (.bitZp zp) := decodesBack 0x24 zp 0 rfl rfl rfl rfl rfl
theorem DecodesBack.andZp (zp : Byte) : DecodesBack.Statement (.andZp zp) := decodesBack 0x25 zp 0 rfl rfl rfl rfl rfl
theorem DecodesBack.rolZp (zp : Byte) : DecodesBack.Statement (.rolZp zp) := decodesBack 0x26 zp 0 rfl rfl rfl rfl rfl
theorem DecodesBack.rmb2 (zp : Byte) : DecodesBack.Statement (.rmb2 zp) := decodesBack 0x27 zp 0 rfl rfl rfl rfl rfl
theorem DecodesBack.plp : DecodesBack.Statement .plp := decodesBack 0x28 0 0 rfl rfl rfl rfl rfl
theorem DecodesBack.andImm (imm : Byte) : DecodesBack.Statement (.andImm imm) :=
  decodesBack 0x29 imm 0 rfl rfl rfl rfl rfl
theorem DecodesBack.rolAcc : DecodesBack.Statement .rolAcc := decodesBack 0x2A 0 0 rfl rfl rfl rfl rfl
theorem DecodesBack.rsv2B : DecodesBack.Statement .rsv2B := decodesBackReserved 0x2B rfl rfl rfl fun _ _ => rfl
theorem DecodesBack.bitAbs (addr : Word) : DecodesBack.Statement (.bitAbs addr) :=
  decodesBack 0x2C (lowByte addr) (highByte addr) rfl rfl rfl
    (congrArg Instr.bitAbs (Machine.wordOf_lowByte_highByte addr)) rfl
theorem DecodesBack.andAbs (addr : Word) : DecodesBack.Statement (.andAbs addr) :=
  decodesBack 0x2D (lowByte addr) (highByte addr) rfl rfl rfl
    (congrArg Instr.andAbs (Machine.wordOf_lowByte_highByte addr)) rfl
theorem DecodesBack.rolAbs (addr : Word) : DecodesBack.Statement (.rolAbs addr) :=
  decodesBack 0x2E (lowByte addr) (highByte addr) rfl rfl rfl
    (congrArg Instr.rolAbs (Machine.wordOf_lowByte_highByte addr)) rfl
theorem DecodesBack.bbr2 (zp : Byte) (rel : Byte) : DecodesBack.Statement (.bbr2 zp rel) :=
  decodesBack 0x2F zp rel rfl rfl rfl rfl rfl
theorem DecodesBack.bmi (rel : Byte) : DecodesBack.Statement (.bmi rel) := decodesBack 0x30 rel 0 rfl rfl rfl rfl rfl
theorem DecodesBack.andIndY (zp : Byte) : DecodesBack.Statement (.andIndY zp) :=
  decodesBack 0x31 zp 0 rfl rfl rfl rfl rfl
theorem DecodesBack.andInd (zp : Byte) : DecodesBack.Statement (.andInd zp) :=
  decodesBack 0x32 zp 0 rfl rfl rfl rfl rfl
theorem DecodesBack.rsv33 : DecodesBack.Statement .rsv33 := decodesBackReserved 0x33 rfl rfl rfl fun _ _ => rfl
theorem DecodesBack.bitZpX (zp : Byte) : DecodesBack.Statement (.bitZpX zp) :=
  decodesBack 0x34 zp 0 rfl rfl rfl rfl rfl
theorem DecodesBack.andZpX (zp : Byte) : DecodesBack.Statement (.andZpX zp) :=
  decodesBack 0x35 zp 0 rfl rfl rfl rfl rfl
theorem DecodesBack.rolZpX (zp : Byte) : DecodesBack.Statement (.rolZpX zp) :=
  decodesBack 0x36 zp 0 rfl rfl rfl rfl rfl
theorem DecodesBack.rmb3 (zp : Byte) : DecodesBack.Statement (.rmb3 zp) := decodesBack 0x37 zp 0 rfl rfl rfl rfl rfl
theorem DecodesBack.sec : DecodesBack.Statement .sec := decodesBack 0x38 0 0 rfl rfl rfl rfl rfl
theorem DecodesBack.andAbsY (addr : Word) : DecodesBack.Statement (.andAbsY addr) :=
  decodesBack 0x39 (lowByte addr) (highByte addr) rfl rfl rfl
    (congrArg Instr.andAbsY (Machine.wordOf_lowByte_highByte addr)) rfl
theorem DecodesBack.decAcc : DecodesBack.Statement .decAcc := decodesBack 0x3A 0 0 rfl rfl rfl rfl rfl
theorem DecodesBack.rsv3B : DecodesBack.Statement .rsv3B := decodesBackReserved 0x3B rfl rfl rfl fun _ _ => rfl
theorem DecodesBack.bitAbsX (addr : Word) : DecodesBack.Statement (.bitAbsX addr) :=
  decodesBack 0x3C (lowByte addr) (highByte addr) rfl rfl rfl
    (congrArg Instr.bitAbsX (Machine.wordOf_lowByte_highByte addr)) rfl
theorem DecodesBack.andAbsX (addr : Word) : DecodesBack.Statement (.andAbsX addr) :=
  decodesBack 0x3D (lowByte addr) (highByte addr) rfl rfl rfl
    (congrArg Instr.andAbsX (Machine.wordOf_lowByte_highByte addr)) rfl
theorem DecodesBack.rolAbsX (addr : Word) : DecodesBack.Statement (.rolAbsX addr) :=
  decodesBack 0x3E (lowByte addr) (highByte addr) rfl rfl rfl
    (congrArg Instr.rolAbsX (Machine.wordOf_lowByte_highByte addr)) rfl
theorem DecodesBack.bbr3 (zp : Byte) (rel : Byte) : DecodesBack.Statement (.bbr3 zp rel) :=
  decodesBack 0x3F zp rel rfl rfl rfl rfl rfl
theorem DecodesBack.rti : DecodesBack.Statement .rti := decodesBack 0x40 0 0 rfl rfl rfl rfl rfl
theorem DecodesBack.eorIndX (zp : Byte) : DecodesBack.Statement (.eorIndX zp) :=
  decodesBack 0x41 zp 0 rfl rfl rfl rfl rfl
theorem DecodesBack.rsv42 (b1 : Skipped) : DecodesBack.Statement (.rsv42 b1) :=
  decodesBackReserved 0x42 rfl rfl rfl fun _ _ => rfl
theorem DecodesBack.rsv43 : DecodesBack.Statement .rsv43 := decodesBackReserved 0x43 rfl rfl rfl fun _ _ => rfl
theorem DecodesBack.rsv44 (b1 : Skipped) : DecodesBack.Statement (.rsv44 b1) :=
  decodesBackReserved 0x44 rfl rfl rfl fun _ _ => rfl
theorem DecodesBack.eorZp (zp : Byte) : DecodesBack.Statement (.eorZp zp) := decodesBack 0x45 zp 0 rfl rfl rfl rfl rfl
theorem DecodesBack.lsrZp (zp : Byte) : DecodesBack.Statement (.lsrZp zp) := decodesBack 0x46 zp 0 rfl rfl rfl rfl rfl
theorem DecodesBack.rmb4 (zp : Byte) : DecodesBack.Statement (.rmb4 zp) := decodesBack 0x47 zp 0 rfl rfl rfl rfl rfl
theorem DecodesBack.pha : DecodesBack.Statement .pha := decodesBack 0x48 0 0 rfl rfl rfl rfl rfl
theorem DecodesBack.eorImm (imm : Byte) : DecodesBack.Statement (.eorImm imm) :=
  decodesBack 0x49 imm 0 rfl rfl rfl rfl rfl
theorem DecodesBack.lsrAcc : DecodesBack.Statement .lsrAcc := decodesBack 0x4A 0 0 rfl rfl rfl rfl rfl
theorem DecodesBack.rsv4B : DecodesBack.Statement .rsv4B := decodesBackReserved 0x4B rfl rfl rfl fun _ _ => rfl
theorem DecodesBack.jmpAbs (addr : Word) : DecodesBack.Statement (.jmpAbs addr) :=
  decodesBack 0x4C (lowByte addr) (highByte addr) rfl rfl rfl
    (congrArg Instr.jmpAbs (Machine.wordOf_lowByte_highByte addr)) rfl
theorem DecodesBack.eorAbs (addr : Word) : DecodesBack.Statement (.eorAbs addr) :=
  decodesBack 0x4D (lowByte addr) (highByte addr) rfl rfl rfl
    (congrArg Instr.eorAbs (Machine.wordOf_lowByte_highByte addr)) rfl
theorem DecodesBack.lsrAbs (addr : Word) : DecodesBack.Statement (.lsrAbs addr) :=
  decodesBack 0x4E (lowByte addr) (highByte addr) rfl rfl rfl
    (congrArg Instr.lsrAbs (Machine.wordOf_lowByte_highByte addr)) rfl
theorem DecodesBack.bbr4 (zp : Byte) (rel : Byte) : DecodesBack.Statement (.bbr4 zp rel) :=
  decodesBack 0x4F zp rel rfl rfl rfl rfl rfl
theorem DecodesBack.bvc (rel : Byte) : DecodesBack.Statement (.bvc rel) := decodesBack 0x50 rel 0 rfl rfl rfl rfl rfl
theorem DecodesBack.eorIndY (zp : Byte) : DecodesBack.Statement (.eorIndY zp) :=
  decodesBack 0x51 zp 0 rfl rfl rfl rfl rfl
theorem DecodesBack.eorInd (zp : Byte) : DecodesBack.Statement (.eorInd zp) :=
  decodesBack 0x52 zp 0 rfl rfl rfl rfl rfl
theorem DecodesBack.rsv53 : DecodesBack.Statement .rsv53 := decodesBackReserved 0x53 rfl rfl rfl fun _ _ => rfl
theorem DecodesBack.rsv54 (b1 : Skipped) : DecodesBack.Statement (.rsv54 b1) :=
  decodesBackReserved 0x54 rfl rfl rfl fun _ _ => rfl
theorem DecodesBack.eorZpX (zp : Byte) : DecodesBack.Statement (.eorZpX zp) :=
  decodesBack 0x55 zp 0 rfl rfl rfl rfl rfl
theorem DecodesBack.lsrZpX (zp : Byte) : DecodesBack.Statement (.lsrZpX zp) :=
  decodesBack 0x56 zp 0 rfl rfl rfl rfl rfl
theorem DecodesBack.rmb5 (zp : Byte) : DecodesBack.Statement (.rmb5 zp) := decodesBack 0x57 zp 0 rfl rfl rfl rfl rfl
theorem DecodesBack.cli : DecodesBack.Statement .cli := decodesBack 0x58 0 0 rfl rfl rfl rfl rfl
theorem DecodesBack.eorAbsY (addr : Word) : DecodesBack.Statement (.eorAbsY addr) :=
  decodesBack 0x59 (lowByte addr) (highByte addr) rfl rfl rfl
    (congrArg Instr.eorAbsY (Machine.wordOf_lowByte_highByte addr)) rfl
theorem DecodesBack.phy : DecodesBack.Statement .phy := decodesBack 0x5A 0 0 rfl rfl rfl rfl rfl
theorem DecodesBack.rsv5B : DecodesBack.Statement .rsv5B := decodesBackReserved 0x5B rfl rfl rfl fun _ _ => rfl
theorem DecodesBack.rsv5C (b1 : Skipped) (b2 : Skipped) : DecodesBack.Statement (.rsv5C b1 b2) :=
  decodesBackReserved 0x5C rfl rfl rfl fun _ _ => rfl
theorem DecodesBack.eorAbsX (addr : Word) : DecodesBack.Statement (.eorAbsX addr) :=
  decodesBack 0x5D (lowByte addr) (highByte addr) rfl rfl rfl
    (congrArg Instr.eorAbsX (Machine.wordOf_lowByte_highByte addr)) rfl
theorem DecodesBack.lsrAbsX (addr : Word) : DecodesBack.Statement (.lsrAbsX addr) :=
  decodesBack 0x5E (lowByte addr) (highByte addr) rfl rfl rfl
    (congrArg Instr.lsrAbsX (Machine.wordOf_lowByte_highByte addr)) rfl
theorem DecodesBack.bbr5 (zp : Byte) (rel : Byte) : DecodesBack.Statement (.bbr5 zp rel) :=
  decodesBack 0x5F zp rel rfl rfl rfl rfl rfl
theorem DecodesBack.rts : DecodesBack.Statement .rts := decodesBack 0x60 0 0 rfl rfl rfl rfl rfl
theorem DecodesBack.adcIndX (zp : Byte) : DecodesBack.Statement (.adcIndX zp) :=
  decodesBack 0x61 zp 0 rfl rfl rfl rfl rfl
theorem DecodesBack.rsv62 (b1 : Skipped) : DecodesBack.Statement (.rsv62 b1) :=
  decodesBackReserved 0x62 rfl rfl rfl fun _ _ => rfl
theorem DecodesBack.rsv63 : DecodesBack.Statement .rsv63 := decodesBackReserved 0x63 rfl rfl rfl fun _ _ => rfl
theorem DecodesBack.stzZp (zp : Byte) : DecodesBack.Statement (.stzZp zp) := decodesBack 0x64 zp 0 rfl rfl rfl rfl rfl
theorem DecodesBack.adcZp (zp : Byte) : DecodesBack.Statement (.adcZp zp) := decodesBack 0x65 zp 0 rfl rfl rfl rfl rfl
theorem DecodesBack.rorZp (zp : Byte) : DecodesBack.Statement (.rorZp zp) := decodesBack 0x66 zp 0 rfl rfl rfl rfl rfl
theorem DecodesBack.rmb6 (zp : Byte) : DecodesBack.Statement (.rmb6 zp) := decodesBack 0x67 zp 0 rfl rfl rfl rfl rfl
theorem DecodesBack.pla : DecodesBack.Statement .pla := decodesBack 0x68 0 0 rfl rfl rfl rfl rfl
theorem DecodesBack.adcImm (imm : Byte) : DecodesBack.Statement (.adcImm imm) :=
  decodesBack 0x69 imm 0 rfl rfl rfl rfl rfl
theorem DecodesBack.rorAcc : DecodesBack.Statement .rorAcc := decodesBack 0x6A 0 0 rfl rfl rfl rfl rfl
theorem DecodesBack.rsv6B : DecodesBack.Statement .rsv6B := decodesBackReserved 0x6B rfl rfl rfl fun _ _ => rfl
theorem DecodesBack.jmpInd (addr : Word) : DecodesBack.Statement (.jmpInd addr) :=
  decodesBack 0x6C (lowByte addr) (highByte addr) rfl rfl rfl
    (congrArg Instr.jmpInd (Machine.wordOf_lowByte_highByte addr)) rfl
theorem DecodesBack.adcAbs (addr : Word) : DecodesBack.Statement (.adcAbs addr) :=
  decodesBack 0x6D (lowByte addr) (highByte addr) rfl rfl rfl
    (congrArg Instr.adcAbs (Machine.wordOf_lowByte_highByte addr)) rfl
theorem DecodesBack.rorAbs (addr : Word) : DecodesBack.Statement (.rorAbs addr) :=
  decodesBack 0x6E (lowByte addr) (highByte addr) rfl rfl rfl
    (congrArg Instr.rorAbs (Machine.wordOf_lowByte_highByte addr)) rfl
theorem DecodesBack.bbr6 (zp : Byte) (rel : Byte) : DecodesBack.Statement (.bbr6 zp rel) :=
  decodesBack 0x6F zp rel rfl rfl rfl rfl rfl
theorem DecodesBack.bvs (rel : Byte) : DecodesBack.Statement (.bvs rel) := decodesBack 0x70 rel 0 rfl rfl rfl rfl rfl
theorem DecodesBack.adcIndY (zp : Byte) : DecodesBack.Statement (.adcIndY zp) :=
  decodesBack 0x71 zp 0 rfl rfl rfl rfl rfl
theorem DecodesBack.adcInd (zp : Byte) : DecodesBack.Statement (.adcInd zp) :=
  decodesBack 0x72 zp 0 rfl rfl rfl rfl rfl
theorem DecodesBack.rsv73 : DecodesBack.Statement .rsv73 := decodesBackReserved 0x73 rfl rfl rfl fun _ _ => rfl
theorem DecodesBack.stzZpX (zp : Byte) : DecodesBack.Statement (.stzZpX zp) :=
  decodesBack 0x74 zp 0 rfl rfl rfl rfl rfl
theorem DecodesBack.adcZpX (zp : Byte) : DecodesBack.Statement (.adcZpX zp) :=
  decodesBack 0x75 zp 0 rfl rfl rfl rfl rfl
theorem DecodesBack.rorZpX (zp : Byte) : DecodesBack.Statement (.rorZpX zp) :=
  decodesBack 0x76 zp 0 rfl rfl rfl rfl rfl
theorem DecodesBack.rmb7 (zp : Byte) : DecodesBack.Statement (.rmb7 zp) := decodesBack 0x77 zp 0 rfl rfl rfl rfl rfl
theorem DecodesBack.sei : DecodesBack.Statement .sei := decodesBack 0x78 0 0 rfl rfl rfl rfl rfl
theorem DecodesBack.adcAbsY (addr : Word) : DecodesBack.Statement (.adcAbsY addr) :=
  decodesBack 0x79 (lowByte addr) (highByte addr) rfl rfl rfl
    (congrArg Instr.adcAbsY (Machine.wordOf_lowByte_highByte addr)) rfl
theorem DecodesBack.ply : DecodesBack.Statement .ply := decodesBack 0x7A 0 0 rfl rfl rfl rfl rfl
theorem DecodesBack.rsv7B : DecodesBack.Statement .rsv7B := decodesBackReserved 0x7B rfl rfl rfl fun _ _ => rfl
theorem DecodesBack.jmpIndX (addr : Word) : DecodesBack.Statement (.jmpIndX addr) :=
  decodesBack 0x7C (lowByte addr) (highByte addr) rfl rfl rfl
    (congrArg Instr.jmpIndX (Machine.wordOf_lowByte_highByte addr)) rfl
theorem DecodesBack.adcAbsX (addr : Word) : DecodesBack.Statement (.adcAbsX addr) :=
  decodesBack 0x7D (lowByte addr) (highByte addr) rfl rfl rfl
    (congrArg Instr.adcAbsX (Machine.wordOf_lowByte_highByte addr)) rfl
theorem DecodesBack.rorAbsX (addr : Word) : DecodesBack.Statement (.rorAbsX addr) :=
  decodesBack 0x7E (lowByte addr) (highByte addr) rfl rfl rfl
    (congrArg Instr.rorAbsX (Machine.wordOf_lowByte_highByte addr)) rfl
theorem DecodesBack.bbr7 (zp : Byte) (rel : Byte) : DecodesBack.Statement (.bbr7 zp rel) :=
  decodesBack 0x7F zp rel rfl rfl rfl rfl rfl
theorem DecodesBack.bra (rel : Byte) : DecodesBack.Statement (.bra rel) := decodesBack 0x80 rel 0 rfl rfl rfl rfl rfl
theorem DecodesBack.staIndX (zp : Byte) : DecodesBack.Statement (.staIndX zp) :=
  decodesBack 0x81 zp 0 rfl rfl rfl rfl rfl
theorem DecodesBack.rsv82 (b1 : Skipped) : DecodesBack.Statement (.rsv82 b1) :=
  decodesBackReserved 0x82 rfl rfl rfl fun _ _ => rfl
theorem DecodesBack.rsv83 : DecodesBack.Statement .rsv83 := decodesBackReserved 0x83 rfl rfl rfl fun _ _ => rfl
theorem DecodesBack.styZp (zp : Byte) : DecodesBack.Statement (.styZp zp) := decodesBack 0x84 zp 0 rfl rfl rfl rfl rfl
theorem DecodesBack.staZp (zp : Byte) : DecodesBack.Statement (.staZp zp) := decodesBack 0x85 zp 0 rfl rfl rfl rfl rfl
theorem DecodesBack.stxZp (zp : Byte) : DecodesBack.Statement (.stxZp zp) := decodesBack 0x86 zp 0 rfl rfl rfl rfl rfl
theorem DecodesBack.smb0 (zp : Byte) : DecodesBack.Statement (.smb0 zp) := decodesBack 0x87 zp 0 rfl rfl rfl rfl rfl
theorem DecodesBack.dey : DecodesBack.Statement .dey := decodesBack 0x88 0 0 rfl rfl rfl rfl rfl
theorem DecodesBack.bitImm (imm : Byte) : DecodesBack.Statement (.bitImm imm) :=
  decodesBack 0x89 imm 0 rfl rfl rfl rfl rfl
theorem DecodesBack.txa : DecodesBack.Statement .txa := decodesBack 0x8A 0 0 rfl rfl rfl rfl rfl
theorem DecodesBack.rsv8B : DecodesBack.Statement .rsv8B := decodesBackReserved 0x8B rfl rfl rfl fun _ _ => rfl
theorem DecodesBack.styAbs (addr : Word) : DecodesBack.Statement (.styAbs addr) :=
  decodesBack 0x8C (lowByte addr) (highByte addr) rfl rfl rfl
    (congrArg Instr.styAbs (Machine.wordOf_lowByte_highByte addr)) rfl
theorem DecodesBack.staAbs (addr : Word) : DecodesBack.Statement (.staAbs addr) :=
  decodesBack 0x8D (lowByte addr) (highByte addr) rfl rfl rfl
    (congrArg Instr.staAbs (Machine.wordOf_lowByte_highByte addr)) rfl
theorem DecodesBack.stxAbs (addr : Word) : DecodesBack.Statement (.stxAbs addr) :=
  decodesBack 0x8E (lowByte addr) (highByte addr) rfl rfl rfl
    (congrArg Instr.stxAbs (Machine.wordOf_lowByte_highByte addr)) rfl
theorem DecodesBack.bbs0 (zp : Byte) (rel : Byte) : DecodesBack.Statement (.bbs0 zp rel) :=
  decodesBack 0x8F zp rel rfl rfl rfl rfl rfl
theorem DecodesBack.bcc (rel : Byte) : DecodesBack.Statement (.bcc rel) := decodesBack 0x90 rel 0 rfl rfl rfl rfl rfl
theorem DecodesBack.staIndY (zp : Byte) : DecodesBack.Statement (.staIndY zp) :=
  decodesBack 0x91 zp 0 rfl rfl rfl rfl rfl
theorem DecodesBack.staInd (zp : Byte) : DecodesBack.Statement (.staInd zp) :=
  decodesBack 0x92 zp 0 rfl rfl rfl rfl rfl
theorem DecodesBack.rsv93 : DecodesBack.Statement .rsv93 := decodesBackReserved 0x93 rfl rfl rfl fun _ _ => rfl
theorem DecodesBack.styZpX (zp : Byte) : DecodesBack.Statement (.styZpX zp) :=
  decodesBack 0x94 zp 0 rfl rfl rfl rfl rfl
theorem DecodesBack.staZpX (zp : Byte) : DecodesBack.Statement (.staZpX zp) :=
  decodesBack 0x95 zp 0 rfl rfl rfl rfl rfl
theorem DecodesBack.stxZpY (zp : Byte) : DecodesBack.Statement (.stxZpY zp) :=
  decodesBack 0x96 zp 0 rfl rfl rfl rfl rfl
theorem DecodesBack.smb1 (zp : Byte) : DecodesBack.Statement (.smb1 zp) := decodesBack 0x97 zp 0 rfl rfl rfl rfl rfl
theorem DecodesBack.tya : DecodesBack.Statement .tya := decodesBack 0x98 0 0 rfl rfl rfl rfl rfl
theorem DecodesBack.staAbsY (addr : Word) : DecodesBack.Statement (.staAbsY addr) :=
  decodesBack 0x99 (lowByte addr) (highByte addr) rfl rfl rfl
    (congrArg Instr.staAbsY (Machine.wordOf_lowByte_highByte addr)) rfl
theorem DecodesBack.txs : DecodesBack.Statement .txs := decodesBack 0x9A 0 0 rfl rfl rfl rfl rfl
theorem DecodesBack.rsv9B : DecodesBack.Statement .rsv9B := decodesBackReserved 0x9B rfl rfl rfl fun _ _ => rfl
theorem DecodesBack.stzAbs (addr : Word) : DecodesBack.Statement (.stzAbs addr) :=
  decodesBack 0x9C (lowByte addr) (highByte addr) rfl rfl rfl
    (congrArg Instr.stzAbs (Machine.wordOf_lowByte_highByte addr)) rfl
theorem DecodesBack.staAbsX (addr : Word) : DecodesBack.Statement (.staAbsX addr) :=
  decodesBack 0x9D (lowByte addr) (highByte addr) rfl rfl rfl
    (congrArg Instr.staAbsX (Machine.wordOf_lowByte_highByte addr)) rfl
theorem DecodesBack.stzAbsX (addr : Word) : DecodesBack.Statement (.stzAbsX addr) :=
  decodesBack 0x9E (lowByte addr) (highByte addr) rfl rfl rfl
    (congrArg Instr.stzAbsX (Machine.wordOf_lowByte_highByte addr)) rfl
theorem DecodesBack.bbs1 (zp : Byte) (rel : Byte) : DecodesBack.Statement (.bbs1 zp rel) :=
  decodesBack 0x9F zp rel rfl rfl rfl rfl rfl
theorem DecodesBack.ldyImm (imm : Byte) : DecodesBack.Statement (.ldyImm imm) :=
  decodesBack 0xA0 imm 0 rfl rfl rfl rfl rfl
theorem DecodesBack.ldaIndX (zp : Byte) : DecodesBack.Statement (.ldaIndX zp) :=
  decodesBack 0xA1 zp 0 rfl rfl rfl rfl rfl
theorem DecodesBack.ldxImm (imm : Byte) : DecodesBack.Statement (.ldxImm imm) :=
  decodesBack 0xA2 imm 0 rfl rfl rfl rfl rfl
theorem DecodesBack.rsvA3 : DecodesBack.Statement .rsvA3 := decodesBackReserved 0xA3 rfl rfl rfl fun _ _ => rfl
theorem DecodesBack.ldyZp (zp : Byte) : DecodesBack.Statement (.ldyZp zp) := decodesBack 0xA4 zp 0 rfl rfl rfl rfl rfl
theorem DecodesBack.ldaZp (zp : Byte) : DecodesBack.Statement (.ldaZp zp) := decodesBack 0xA5 zp 0 rfl rfl rfl rfl rfl
theorem DecodesBack.ldxZp (zp : Byte) : DecodesBack.Statement (.ldxZp zp) := decodesBack 0xA6 zp 0 rfl rfl rfl rfl rfl
theorem DecodesBack.smb2 (zp : Byte) : DecodesBack.Statement (.smb2 zp) := decodesBack 0xA7 zp 0 rfl rfl rfl rfl rfl
theorem DecodesBack.tay : DecodesBack.Statement .tay := decodesBack 0xA8 0 0 rfl rfl rfl rfl rfl
theorem DecodesBack.ldaImm (imm : Byte) : DecodesBack.Statement (.ldaImm imm) :=
  decodesBack 0xA9 imm 0 rfl rfl rfl rfl rfl
theorem DecodesBack.tax : DecodesBack.Statement .tax := decodesBack 0xAA 0 0 rfl rfl rfl rfl rfl
theorem DecodesBack.rsvAB : DecodesBack.Statement .rsvAB := decodesBackReserved 0xAB rfl rfl rfl fun _ _ => rfl
theorem DecodesBack.ldyAbs (addr : Word) : DecodesBack.Statement (.ldyAbs addr) :=
  decodesBack 0xAC (lowByte addr) (highByte addr) rfl rfl rfl
    (congrArg Instr.ldyAbs (Machine.wordOf_lowByte_highByte addr)) rfl
theorem DecodesBack.ldaAbs (addr : Word) : DecodesBack.Statement (.ldaAbs addr) :=
  decodesBack 0xAD (lowByte addr) (highByte addr) rfl rfl rfl
    (congrArg Instr.ldaAbs (Machine.wordOf_lowByte_highByte addr)) rfl
theorem DecodesBack.ldxAbs (addr : Word) : DecodesBack.Statement (.ldxAbs addr) :=
  decodesBack 0xAE (lowByte addr) (highByte addr) rfl rfl rfl
    (congrArg Instr.ldxAbs (Machine.wordOf_lowByte_highByte addr)) rfl
theorem DecodesBack.bbs2 (zp : Byte) (rel : Byte) : DecodesBack.Statement (.bbs2 zp rel) :=
  decodesBack 0xAF zp rel rfl rfl rfl rfl rfl
theorem DecodesBack.bcs (rel : Byte) : DecodesBack.Statement (.bcs rel) := decodesBack 0xB0 rel 0 rfl rfl rfl rfl rfl
theorem DecodesBack.ldaIndY (zp : Byte) : DecodesBack.Statement (.ldaIndY zp) :=
  decodesBack 0xB1 zp 0 rfl rfl rfl rfl rfl
theorem DecodesBack.ldaInd (zp : Byte) : DecodesBack.Statement (.ldaInd zp) :=
  decodesBack 0xB2 zp 0 rfl rfl rfl rfl rfl
theorem DecodesBack.rsvB3 : DecodesBack.Statement .rsvB3 := decodesBackReserved 0xB3 rfl rfl rfl fun _ _ => rfl
theorem DecodesBack.ldyZpX (zp : Byte) : DecodesBack.Statement (.ldyZpX zp) :=
  decodesBack 0xB4 zp 0 rfl rfl rfl rfl rfl
theorem DecodesBack.ldaZpX (zp : Byte) : DecodesBack.Statement (.ldaZpX zp) :=
  decodesBack 0xB5 zp 0 rfl rfl rfl rfl rfl
theorem DecodesBack.ldxZpY (zp : Byte) : DecodesBack.Statement (.ldxZpY zp) :=
  decodesBack 0xB6 zp 0 rfl rfl rfl rfl rfl
theorem DecodesBack.smb3 (zp : Byte) : DecodesBack.Statement (.smb3 zp) := decodesBack 0xB7 zp 0 rfl rfl rfl rfl rfl
theorem DecodesBack.clv : DecodesBack.Statement .clv := decodesBack 0xB8 0 0 rfl rfl rfl rfl rfl
theorem DecodesBack.ldaAbsY (addr : Word) : DecodesBack.Statement (.ldaAbsY addr) :=
  decodesBack 0xB9 (lowByte addr) (highByte addr) rfl rfl rfl
    (congrArg Instr.ldaAbsY (Machine.wordOf_lowByte_highByte addr)) rfl
theorem DecodesBack.tsx : DecodesBack.Statement .tsx := decodesBack 0xBA 0 0 rfl rfl rfl rfl rfl
theorem DecodesBack.rsvBB : DecodesBack.Statement .rsvBB := decodesBackReserved 0xBB rfl rfl rfl fun _ _ => rfl
theorem DecodesBack.ldyAbsX (addr : Word) : DecodesBack.Statement (.ldyAbsX addr) :=
  decodesBack 0xBC (lowByte addr) (highByte addr) rfl rfl rfl
    (congrArg Instr.ldyAbsX (Machine.wordOf_lowByte_highByte addr)) rfl
theorem DecodesBack.ldaAbsX (addr : Word) : DecodesBack.Statement (.ldaAbsX addr) :=
  decodesBack 0xBD (lowByte addr) (highByte addr) rfl rfl rfl
    (congrArg Instr.ldaAbsX (Machine.wordOf_lowByte_highByte addr)) rfl
theorem DecodesBack.ldxAbsY (addr : Word) : DecodesBack.Statement (.ldxAbsY addr) :=
  decodesBack 0xBE (lowByte addr) (highByte addr) rfl rfl rfl
    (congrArg Instr.ldxAbsY (Machine.wordOf_lowByte_highByte addr)) rfl
theorem DecodesBack.bbs3 (zp : Byte) (rel : Byte) : DecodesBack.Statement (.bbs3 zp rel) :=
  decodesBack 0xBF zp rel rfl rfl rfl rfl rfl
theorem DecodesBack.cpyImm (imm : Byte) : DecodesBack.Statement (.cpyImm imm) :=
  decodesBack 0xC0 imm 0 rfl rfl rfl rfl rfl
theorem DecodesBack.cmpIndX (zp : Byte) : DecodesBack.Statement (.cmpIndX zp) :=
  decodesBack 0xC1 zp 0 rfl rfl rfl rfl rfl
theorem DecodesBack.rsvC2 (b1 : Skipped) : DecodesBack.Statement (.rsvC2 b1) :=
  decodesBackReserved 0xC2 rfl rfl rfl fun _ _ => rfl
theorem DecodesBack.rsvC3 : DecodesBack.Statement .rsvC3 := decodesBackReserved 0xC3 rfl rfl rfl fun _ _ => rfl
theorem DecodesBack.cpyZp (zp : Byte) : DecodesBack.Statement (.cpyZp zp) := decodesBack 0xC4 zp 0 rfl rfl rfl rfl rfl
theorem DecodesBack.cmpZp (zp : Byte) : DecodesBack.Statement (.cmpZp zp) := decodesBack 0xC5 zp 0 rfl rfl rfl rfl rfl
theorem DecodesBack.decZp (zp : Byte) : DecodesBack.Statement (.decZp zp) := decodesBack 0xC6 zp 0 rfl rfl rfl rfl rfl
theorem DecodesBack.smb4 (zp : Byte) : DecodesBack.Statement (.smb4 zp) := decodesBack 0xC7 zp 0 rfl rfl rfl rfl rfl
theorem DecodesBack.iny : DecodesBack.Statement .iny := decodesBack 0xC8 0 0 rfl rfl rfl rfl rfl
theorem DecodesBack.cmpImm (imm : Byte) : DecodesBack.Statement (.cmpImm imm) :=
  decodesBack 0xC9 imm 0 rfl rfl rfl rfl rfl
theorem DecodesBack.dex : DecodesBack.Statement .dex := decodesBack 0xCA 0 0 rfl rfl rfl rfl rfl
theorem DecodesBack.rsvCB : DecodesBack.Statement .rsvCB := decodesBackReserved 0xCB rfl rfl rfl fun _ _ => rfl
theorem DecodesBack.cpyAbs (addr : Word) : DecodesBack.Statement (.cpyAbs addr) :=
  decodesBack 0xCC (lowByte addr) (highByte addr) rfl rfl rfl
    (congrArg Instr.cpyAbs (Machine.wordOf_lowByte_highByte addr)) rfl
theorem DecodesBack.cmpAbs (addr : Word) : DecodesBack.Statement (.cmpAbs addr) :=
  decodesBack 0xCD (lowByte addr) (highByte addr) rfl rfl rfl
    (congrArg Instr.cmpAbs (Machine.wordOf_lowByte_highByte addr)) rfl
theorem DecodesBack.decAbs (addr : Word) : DecodesBack.Statement (.decAbs addr) :=
  decodesBack 0xCE (lowByte addr) (highByte addr) rfl rfl rfl
    (congrArg Instr.decAbs (Machine.wordOf_lowByte_highByte addr)) rfl
theorem DecodesBack.bbs4 (zp : Byte) (rel : Byte) : DecodesBack.Statement (.bbs4 zp rel) :=
  decodesBack 0xCF zp rel rfl rfl rfl rfl rfl
theorem DecodesBack.bne (rel : Byte) : DecodesBack.Statement (.bne rel) := decodesBack 0xD0 rel 0 rfl rfl rfl rfl rfl
theorem DecodesBack.cmpIndY (zp : Byte) : DecodesBack.Statement (.cmpIndY zp) :=
  decodesBack 0xD1 zp 0 rfl rfl rfl rfl rfl
theorem DecodesBack.cmpInd (zp : Byte) : DecodesBack.Statement (.cmpInd zp) :=
  decodesBack 0xD2 zp 0 rfl rfl rfl rfl rfl
theorem DecodesBack.rsvD3 : DecodesBack.Statement .rsvD3 := decodesBackReserved 0xD3 rfl rfl rfl fun _ _ => rfl
theorem DecodesBack.rsvD4 (b1 : Skipped) : DecodesBack.Statement (.rsvD4 b1) :=
  decodesBackReserved 0xD4 rfl rfl rfl fun _ _ => rfl
theorem DecodesBack.cmpZpX (zp : Byte) : DecodesBack.Statement (.cmpZpX zp) :=
  decodesBack 0xD5 zp 0 rfl rfl rfl rfl rfl
theorem DecodesBack.decZpX (zp : Byte) : DecodesBack.Statement (.decZpX zp) :=
  decodesBack 0xD6 zp 0 rfl rfl rfl rfl rfl
theorem DecodesBack.smb5 (zp : Byte) : DecodesBack.Statement (.smb5 zp) := decodesBack 0xD7 zp 0 rfl rfl rfl rfl rfl
theorem DecodesBack.cld : DecodesBack.Statement .cld := decodesBack 0xD8 0 0 rfl rfl rfl rfl rfl
theorem DecodesBack.cmpAbsY (addr : Word) : DecodesBack.Statement (.cmpAbsY addr) :=
  decodesBack 0xD9 (lowByte addr) (highByte addr) rfl rfl rfl
    (congrArg Instr.cmpAbsY (Machine.wordOf_lowByte_highByte addr)) rfl
theorem DecodesBack.phx : DecodesBack.Statement .phx := decodesBack 0xDA 0 0 rfl rfl rfl rfl rfl
theorem DecodesBack.rsvDB : DecodesBack.Statement .rsvDB := decodesBackReserved 0xDB rfl rfl rfl fun _ _ => rfl
theorem DecodesBack.rsvDC (b1 : Skipped) (b2 : Skipped) : DecodesBack.Statement (.rsvDC b1 b2) :=
  decodesBackReserved 0xDC rfl rfl rfl fun _ _ => rfl
theorem DecodesBack.cmpAbsX (addr : Word) : DecodesBack.Statement (.cmpAbsX addr) :=
  decodesBack 0xDD (lowByte addr) (highByte addr) rfl rfl rfl
    (congrArg Instr.cmpAbsX (Machine.wordOf_lowByte_highByte addr)) rfl
theorem DecodesBack.decAbsX (addr : Word) : DecodesBack.Statement (.decAbsX addr) :=
  decodesBack 0xDE (lowByte addr) (highByte addr) rfl rfl rfl
    (congrArg Instr.decAbsX (Machine.wordOf_lowByte_highByte addr)) rfl
theorem DecodesBack.bbs5 (zp : Byte) (rel : Byte) : DecodesBack.Statement (.bbs5 zp rel) :=
  decodesBack 0xDF zp rel rfl rfl rfl rfl rfl
theorem DecodesBack.cpxImm (imm : Byte) : DecodesBack.Statement (.cpxImm imm) :=
  decodesBack 0xE0 imm 0 rfl rfl rfl rfl rfl
theorem DecodesBack.sbcIndX (zp : Byte) : DecodesBack.Statement (.sbcIndX zp) :=
  decodesBack 0xE1 zp 0 rfl rfl rfl rfl rfl
theorem DecodesBack.rsvE2 (b1 : Skipped) : DecodesBack.Statement (.rsvE2 b1) :=
  decodesBackReserved 0xE2 rfl rfl rfl fun _ _ => rfl
theorem DecodesBack.rsvE3 : DecodesBack.Statement .rsvE3 := decodesBackReserved 0xE3 rfl rfl rfl fun _ _ => rfl
theorem DecodesBack.cpxZp (zp : Byte) : DecodesBack.Statement (.cpxZp zp) := decodesBack 0xE4 zp 0 rfl rfl rfl rfl rfl
theorem DecodesBack.sbcZp (zp : Byte) : DecodesBack.Statement (.sbcZp zp) := decodesBack 0xE5 zp 0 rfl rfl rfl rfl rfl
theorem DecodesBack.incZp (zp : Byte) : DecodesBack.Statement (.incZp zp) := decodesBack 0xE6 zp 0 rfl rfl rfl rfl rfl
theorem DecodesBack.smb6 (zp : Byte) : DecodesBack.Statement (.smb6 zp) := decodesBack 0xE7 zp 0 rfl rfl rfl rfl rfl
theorem DecodesBack.inx : DecodesBack.Statement .inx := decodesBack 0xE8 0 0 rfl rfl rfl rfl rfl
theorem DecodesBack.sbcImm (imm : Byte) : DecodesBack.Statement (.sbcImm imm) :=
  decodesBack 0xE9 imm 0 rfl rfl rfl rfl rfl
theorem DecodesBack.nop : DecodesBack.Statement .nop := decodesBack 0xEA 0 0 rfl rfl rfl rfl rfl
theorem DecodesBack.rsvEB : DecodesBack.Statement .rsvEB := decodesBackReserved 0xEB rfl rfl rfl fun _ _ => rfl
theorem DecodesBack.cpxAbs (addr : Word) : DecodesBack.Statement (.cpxAbs addr) :=
  decodesBack 0xEC (lowByte addr) (highByte addr) rfl rfl rfl
    (congrArg Instr.cpxAbs (Machine.wordOf_lowByte_highByte addr)) rfl
theorem DecodesBack.sbcAbs (addr : Word) : DecodesBack.Statement (.sbcAbs addr) :=
  decodesBack 0xED (lowByte addr) (highByte addr) rfl rfl rfl
    (congrArg Instr.sbcAbs (Machine.wordOf_lowByte_highByte addr)) rfl
theorem DecodesBack.incAbs (addr : Word) : DecodesBack.Statement (.incAbs addr) :=
  decodesBack 0xEE (lowByte addr) (highByte addr) rfl rfl rfl
    (congrArg Instr.incAbs (Machine.wordOf_lowByte_highByte addr)) rfl
theorem DecodesBack.bbs6 (zp : Byte) (rel : Byte) : DecodesBack.Statement (.bbs6 zp rel) :=
  decodesBack 0xEF zp rel rfl rfl rfl rfl rfl
theorem DecodesBack.beq (rel : Byte) : DecodesBack.Statement (.beq rel) := decodesBack 0xF0 rel 0 rfl rfl rfl rfl rfl
theorem DecodesBack.sbcIndY (zp : Byte) : DecodesBack.Statement (.sbcIndY zp) :=
  decodesBack 0xF1 zp 0 rfl rfl rfl rfl rfl
theorem DecodesBack.sbcInd (zp : Byte) : DecodesBack.Statement (.sbcInd zp) :=
  decodesBack 0xF2 zp 0 rfl rfl rfl rfl rfl
theorem DecodesBack.rsvF3 : DecodesBack.Statement .rsvF3 := decodesBackReserved 0xF3 rfl rfl rfl fun _ _ => rfl
theorem DecodesBack.rsvF4 (b1 : Skipped) : DecodesBack.Statement (.rsvF4 b1) :=
  decodesBackReserved 0xF4 rfl rfl rfl fun _ _ => rfl
theorem DecodesBack.sbcZpX (zp : Byte) : DecodesBack.Statement (.sbcZpX zp) :=
  decodesBack 0xF5 zp 0 rfl rfl rfl rfl rfl
theorem DecodesBack.incZpX (zp : Byte) : DecodesBack.Statement (.incZpX zp) :=
  decodesBack 0xF6 zp 0 rfl rfl rfl rfl rfl
theorem DecodesBack.smb7 (zp : Byte) : DecodesBack.Statement (.smb7 zp) := decodesBack 0xF7 zp 0 rfl rfl rfl rfl rfl
theorem DecodesBack.sed : DecodesBack.Statement .sed := decodesBack 0xF8 0 0 rfl rfl rfl rfl rfl
theorem DecodesBack.sbcAbsY (addr : Word) : DecodesBack.Statement (.sbcAbsY addr) :=
  decodesBack 0xF9 (lowByte addr) (highByte addr) rfl rfl rfl
    (congrArg Instr.sbcAbsY (Machine.wordOf_lowByte_highByte addr)) rfl
theorem DecodesBack.plx : DecodesBack.Statement .plx := decodesBack 0xFA 0 0 rfl rfl rfl rfl rfl
theorem DecodesBack.rsvFB : DecodesBack.Statement .rsvFB := decodesBackReserved 0xFB rfl rfl rfl fun _ _ => rfl
theorem DecodesBack.rsvFC (b1 : Skipped) (b2 : Skipped) : DecodesBack.Statement (.rsvFC b1 b2) :=
  decodesBackReserved 0xFC rfl rfl rfl fun _ _ => rfl
theorem DecodesBack.sbcAbsX (addr : Word) : DecodesBack.Statement (.sbcAbsX addr) :=
  decodesBack 0xFD (lowByte addr) (highByte addr) rfl rfl rfl
    (congrArg Instr.sbcAbsX (Machine.wordOf_lowByte_highByte addr)) rfl
theorem DecodesBack.incAbsX (addr : Word) : DecodesBack.Statement (.incAbsX addr) :=
  decodesBack 0xFE (lowByte addr) (highByte addr) rfl rfl rfl
    (congrArg Instr.incAbsX (Machine.wordOf_lowByte_highByte addr)) rfl
theorem DecodesBack.bbs7 (zp : Byte) (rel : Byte) : DecodesBack.Statement (.bbs7 zp rel) :=
  decodesBack 0xFF zp rel rfl rfl rfl rfl rfl

end Sys2Proof.Laws
end

