-- ==== Sys2Proof/Laws/Step.lean ====
section
/-! SUPPORT. What the parts of a step do: the boundary of an empty schedule, the interrupt entry of a pin, the edges
within a step, memory cut short by RES. -/

namespace Sys2Proof.Machine

/-- With nothing scheduled, a boundary only begins a step. -/
theorem State.atBoundary_of_nil {s : State} (h : s.schedule = []) : s.atBoundary = .ok s.begin := by
  rw [State.atBoundary, State.boundary, h]; rfl

/-- With nothing scheduled, a step is what the CPU does at a quiet boundary. -/
theorem step_of_nil {s : State} (h : s.schedule = []) : step s = s.begin.proceed Boundary.quiet := by
  have hb : s.boundary = Boundary.quiet := by simp [State.boundary, h]
  rw [step, State.atBoundary_of_nil h, hb]

/-- With nothing scheduled, no other bus master is at work within the step, no access is recorded, and the free values
are fresh. -/
theorem State.begin_of_nil {s : State} (h : s.schedule = []) :
    s.begin = { s with dma := [], bus := [], draws := s.draws + 1 } := by
  simp [State.begin, State.boundary, h, Boundary.quiet]

/-- At a quiet boundary no edge falls within the step. -/
@[simp] theorem State.within_quiet (writesV : Bool) (s t : State) :
    State.within Boundary.quiet writesV s t = t.finish := rfl

/-- With no other bus master at work, nothing is left to do at the end of a step. -/
theorem State.finish_of_nil {s : State} (h : s.dma = []) : s.finish = s := State.upTo_of_nil h endPlace

/-- The entry of a hardware interrupt: the entry sequence, and what the step records of it (R305, R325). -/
theorem State.takeInterrupt_eq (s : State) (vector : Word) :
    s.takeInterrupt vector =
      { s.enterInterrupt vector false s.pc with
        irqShadow := false
        tcu := 7
        cycles := s.cycles + 7
        bus := s.fillCycles Config.dummyReads none 0 (2 * endPlace) 7
          ((s.enterInterrupt vector false s.pc).bus ++
            (s.enterInterrupt vector false s.pc).readWordAccesses vectorPlace vector) } := rfl

theorem State.wf_writeAt {s : State} (place : Nat) (ml : Bool) (addr : Word) (v : Byte) (h : Memory.wf s.mem) :
    Memory.wf (s.writeAt place ml addr v).mem :=
  Memory.wf_store _ _ _ (State.wf_upTo place h)

theorem State.wf_push {s : State} (place : Nat) (v : Byte) (h : Memory.wf s.mem) : Memory.wf (s.push place v).mem :=
  State.wf_writeAt place false _ v h

theorem State.wf_pushWord {s : State} (w : Word) (h : Memory.wf s.mem) : Memory.wf (s.pushWord w).mem :=
  State.wf_push _ _ (State.wf_push _ _ h)

theorem State.wf_enterInterrupt {s : State} (vector : Word) (b : Bool) (ret : Word) (h : Memory.wf s.mem) :
    Memory.wf (s.enterInterrupt vector b ret).mem :=
  State.wf_push _ _ (State.wf_pushWord _ h)

/-- Memory cut short by RES is in canonical form (R350). -/
theorem Memory.wf_scramble {m : Memory} (platform : List Region) (draw : Nat) (accesses : List BusAccess)
    (h : Memory.wf m) : Memory.wf (Memory.scramble platform m draw accesses) := by
  induction accesses with
  | nil => exact h
  | cons access rest ih =>
    rw [Memory.scramble]
    split
    · exact Memory.wf_store _ _ _ ih
    · exact ih

/-- What RES cuts short changes memory at the addresses being written, nowhere else (R350, log 11). -/
theorem Memory.read_scramble {m : Memory} (platform : List Region) (draw : Nat) (accesses : List BusAccess)
    (addr : Word) (h : ∀ access ∈ accesses, access.write = true → access.addr ≠ addr) :
    (Memory.scramble platform m draw accesses).read addr.toNat = m.read addr.toNat := by
  induction accesses with
  | nil => rfl
  | cons access rest ih =>
    have hrest := ih fun a ha => h a (by simp [ha])
    rw [Memory.scramble]
    split
    · next hw => rw [Memory.read_store, if_neg (fun hc => h access (by simp) hw hc.1), hrest]
    · exact hrest

end Sys2Proof.Machine
end

