-- ==== Sys2Proof/Tests/Slice0.lean ====
section
/-! SUPPORT. Tests of one step each, expected values from the spec's tables and vectors (spec/95_test_vectors.md, cited
by their ids) or worked by hand from a rule; then a witness for the hypotheses of every statement that has some. -/

namespace Sys2Proof.Tests

open Sys2Proof.Machine Sys2Proof.Claims

/-- The start state of the vectors (95_test_vectors.md): pc 0x0200, S 0xFF, everything else 0. -/
def zero : State :=
  { State.reset with pc := 0x0200, sp := 0xFF, p := { State.reset.p with i := false } }

/-- The start state with an instruction's bytes at pc. -/
def start (bytes : List Byte) : State := zero.writeBytes zero.pc bytes

/-- The same with other memory bytes set. -/
def poke (s : State) (cells : List (Word × Byte)) : State :=
  cells.foldl (fun t cell => t.write cell.1 cell.2) s

/-- A part of the state after one step. -/
def after {α : Type} (s : State) (part : State → α) : Option α :=
  match step s with
  | .next t => some (part t)
  | .fault _ => none
  | .refused _ => none

/-- Why one step is refused. -/
def refusal (s : State) : Option Refusal :=
  match step s with
  | .next _ => none
  | .fault _ => none
  | .refused r => some r

/-- The instruction that exactly these bytes decode to. -/
def decodesTo (bytes : List Byte) : Option Instr :=
  match decode bytes with
  | .ok (i, []) => some i
  | _ => none

/-- What an unassigned op code is read as, whatever follows it. -/
def unassignedAt (op : Byte) : Option Instr :=
  if unassigned op then some (decodeOp op 0x34 0x92) else none

/-- The bus accesses of the instruction at pc, with the discarded reads or without: address, value, R/W, SYNC, ML. -/
def accesses (dummyReads : Bool) (s : State) : Option (List (Word × Byte × Bool × Bool × Bool)) :=
  match exec s.begin.fetch s.begin with
  | .next t => some ((recordedAccesses dummyReads s.begin.fetch s.begin t).map fun access =>
      (access.addr, access.value, access.write, access.sync, access.ml))
  | .fault _ => none
  | .refused _ => none

/-- The six flags as one list: N V D I Z C. -/
def nvdizc (s : State) : List Bool := [s.p.n, s.p.v, s.p.d, s.p.i, s.p.z, s.p.c]

/-! Well-formedness: each way bytes can be ill formed is refused -/

theorem test_wellFormed_refuses_nothing : wellFormed [] = false := rfl
theorem test_wellFormed_refuses_short : wellFormed [0xAD, 0x34] = false := rfl
theorem test_wellFormed_refuses_long : wellFormed [0xEA, 0x00] = false := rfl
theorem test_wellFormed_refuses_long_immediate : wellFormed [0xA9, 0x00, 0x00] = false := rfl
theorem test_wellFormed_takes_absolute : wellFormed [0xAD, 0x34, 0x12] = true := rfl
theorem test_decode_refuses_nothing : decode [] = .error .empty := rfl
theorem test_decode_refuses_short : decode [0x8F, 0x12] = .error (.truncated 0x8F) := rfl

/-! Decoding: the op-code map, every cell written out -/

/-- Row 0 of the op-code map (R121), every cell with the operand bytes 0x34 and 0x92 (R103). -/
theorem test_decode_row_0 :
    ([[0x00], [0x01, 0x34], [0x04, 0x34], [0x05, 0x34], [0x06, 0x34],
     [0x07, 0x34], [0x08], [0x09, 0x34], [0x0A], [0x0C, 0x34, 0x92],
     [0x0D, 0x34, 0x92], [0x0E, 0x34, 0x92], [0x0F, 0x34, 0x92]] : List (List Byte)).map decodesTo =
    [some .brk, some (.oraIndX 0x34), some (.tsbZp 0x34), some (.oraZp 0x34),
     some (.aslZp 0x34), some (.rmb0 0x34), some .php, some (.oraImm 0x34),
     some .aslAcc, some (.tsbAbs 0x9234), some (.oraAbs 0x9234),
     some (.aslAbs 0x9234), some (.bbr0 0x34 0x92)] ∧
    ([0x02, 0x03, 0x0B] : List Byte).map unassignedAt =
    [some (.rsv02 ⟨⟩), some .rsv03, some .rsv0B] := ⟨rfl, rfl⟩

/-- Row 1 of the op-code map (R121), every cell with the operand bytes 0x34 and 0x92 (R103). -/
theorem test_decode_row_1 :
    ([[0x10, 0x34], [0x11, 0x34], [0x12, 0x34], [0x14, 0x34], [0x15, 0x34],
     [0x16, 0x34], [0x17, 0x34], [0x18], [0x19, 0x34, 0x92], [0x1A],
     [0x1C, 0x34, 0x92], [0x1D, 0x34, 0x92], [0x1E, 0x34, 0x92],
     [0x1F, 0x34, 0x92]] : List (List Byte)).map decodesTo =
    [some (.bpl 0x34), some (.oraIndY 0x34), some (.oraInd 0x34),
     some (.trbZp 0x34), some (.oraZpX 0x34), some (.aslZpX 0x34),
     some (.rmb1 0x34), some .clc, some (.oraAbsY 0x9234), some .incAcc,
     some (.trbAbs 0x9234), some (.oraAbsX 0x9234), some (.aslAbsX 0x9234),
     some (.bbr1 0x34 0x92)] ∧
    ([0x13, 0x1B] : List Byte).map unassignedAt =
    [some .rsv13, some .rsv1B] := ⟨rfl, rfl⟩

/-- Row 2 of the op-code map (R121), every cell with the operand bytes 0x34 and 0x92 (R103). -/
theorem test_decode_row_2 :
    ([[0x20, 0x34, 0x92], [0x21, 0x34], [0x24, 0x34], [0x25, 0x34], [0x26, 0x34],
     [0x27, 0x34], [0x28], [0x29, 0x34], [0x2A], [0x2C, 0x34, 0x92],
     [0x2D, 0x34, 0x92], [0x2E, 0x34, 0x92], [0x2F, 0x34, 0x92]] : List (List Byte)).map decodesTo =
    [some (.jsr 0x9234), some (.andIndX 0x34), some (.bitZp 0x34),
     some (.andZp 0x34), some (.rolZp 0x34), some (.rmb2 0x34), some .plp,
     some (.andImm 0x34), some .rolAcc, some (.bitAbs 0x9234),
     some (.andAbs 0x9234), some (.rolAbs 0x9234), some (.bbr2 0x34 0x92)] ∧
    ([0x22, 0x23, 0x2B] : List Byte).map unassignedAt =
    [some (.rsv22 ⟨⟩), some .rsv23, some .rsv2B] := ⟨rfl, rfl⟩

/-- Row 3 of the op-code map (R121), every cell with the operand bytes 0x34 and 0x92 (R103). -/
theorem test_decode_row_3 :
    ([[0x30, 0x34], [0x31, 0x34], [0x32, 0x34], [0x34, 0x34], [0x35, 0x34],
     [0x36, 0x34], [0x37, 0x34], [0x38], [0x39, 0x34, 0x92], [0x3A],
     [0x3C, 0x34, 0x92], [0x3D, 0x34, 0x92], [0x3E, 0x34, 0x92],
     [0x3F, 0x34, 0x92]] : List (List Byte)).map decodesTo =
    [some (.bmi 0x34), some (.andIndY 0x34), some (.andInd 0x34),
     some (.bitZpX 0x34), some (.andZpX 0x34), some (.rolZpX 0x34),
     some (.rmb3 0x34), some .sec, some (.andAbsY 0x9234), some .decAcc,
     some (.bitAbsX 0x9234), some (.andAbsX 0x9234), some (.rolAbsX 0x9234),
     some (.bbr3 0x34 0x92)] ∧
    ([0x33, 0x3B] : List Byte).map unassignedAt =
    [some .rsv33, some .rsv3B] := ⟨rfl, rfl⟩

/-- Row 4 of the op-code map (R121), every cell with the operand bytes 0x34 and 0x92 (R103). -/
theorem test_decode_row_4 :
    ([[0x40], [0x41, 0x34], [0x45, 0x34], [0x46, 0x34], [0x47, 0x34], [0x48],
     [0x49, 0x34], [0x4A], [0x4C, 0x34, 0x92], [0x4D, 0x34, 0x92],
     [0x4E, 0x34, 0x92], [0x4F, 0x34, 0x92]] : List (List Byte)).map decodesTo =
    [some .rti, some (.eorIndX 0x34), some (.eorZp 0x34), some (.lsrZp 0x34),
     some (.rmb4 0x34), some .pha, some (.eorImm 0x34), some .lsrAcc,
     some (.jmpAbs 0x9234), some (.eorAbs 0x9234), some (.lsrAbs 0x9234),
     some (.bbr4 0x34 0x92)] ∧
    ([0x42, 0x43, 0x44, 0x4B] : List Byte).map unassignedAt =
    [some (.rsv42 ⟨⟩), some .rsv43, some (.rsv44 ⟨⟩), some .rsv4B] := ⟨rfl, rfl⟩

/-- Row 5 of the op-code map (R121), every cell with the operand bytes 0x34 and 0x92 (R103). -/
theorem test_decode_row_5 :
    ([[0x50, 0x34], [0x51, 0x34], [0x52, 0x34], [0x55, 0x34], [0x56, 0x34],
     [0x57, 0x34], [0x58], [0x59, 0x34, 0x92], [0x5A], [0x5D, 0x34, 0x92],
     [0x5E, 0x34, 0x92], [0x5F, 0x34, 0x92]] : List (List Byte)).map decodesTo =
    [some (.bvc 0x34), some (.eorIndY 0x34), some (.eorInd 0x34),
     some (.eorZpX 0x34), some (.lsrZpX 0x34), some (.rmb5 0x34), some .cli,
     some (.eorAbsY 0x9234), some .phy, some (.eorAbsX 0x9234),
     some (.lsrAbsX 0x9234), some (.bbr5 0x34 0x92)] ∧
    ([0x53, 0x54, 0x5B, 0x5C] : List Byte).map unassignedAt =
    [some .rsv53, some (.rsv54 ⟨⟩), some .rsv5B, some (.rsv5C ⟨⟩ ⟨⟩)] := ⟨rfl, rfl⟩

/-- Row 6 of the op-code map (R121), every cell with the operand bytes 0x34 and 0x92 (R103). -/
theorem test_decode_row_6 :
    ([[0x60], [0x61, 0x34], [0x64, 0x34], [0x65, 0x34], [0x66, 0x34],
     [0x67, 0x34], [0x68], [0x69, 0x34], [0x6A], [0x6C, 0x34, 0x92],
     [0x6D, 0x34, 0x92], [0x6E, 0x34, 0x92], [0x6F, 0x34, 0x92]] : List (List Byte)).map decodesTo =
    [some .rts, some (.adcIndX 0x34), some (.stzZp 0x34), some (.adcZp 0x34),
     some (.rorZp 0x34), some (.rmb6 0x34), some .pla, some (.adcImm 0x34),
     some .rorAcc, some (.jmpInd 0x9234), some (.adcAbs 0x9234),
     some (.rorAbs 0x9234), some (.bbr6 0x34 0x92)] ∧
    ([0x62, 0x63, 0x6B] : List Byte).map unassignedAt =
    [some (.rsv62 ⟨⟩), some .rsv63, some .rsv6B] := ⟨rfl, rfl⟩

/-- Row 7 of the op-code map (R121), every cell with the operand bytes 0x34 and 0x92 (R103). -/
theorem test_decode_row_7 :
    ([[0x70, 0x34], [0x71, 0x34], [0x72, 0x34], [0x74, 0x34], [0x75, 0x34],
     [0x76, 0x34], [0x77, 0x34], [0x78], [0x79, 0x34, 0x92], [0x7A],
     [0x7C, 0x34, 0x92], [0x7D, 0x34, 0x92], [0x7E, 0x34, 0x92],
     [0x7F, 0x34, 0x92]] : List (List Byte)).map decodesTo =
    [some (.bvs 0x34), some (.adcIndY 0x34), some (.adcInd 0x34),
     some (.stzZpX 0x34), some (.adcZpX 0x34), some (.rorZpX 0x34),
     some (.rmb7 0x34), some .sei, some (.adcAbsY 0x9234), some .ply,
     some (.jmpIndX 0x9234), some (.adcAbsX 0x9234), some (.rorAbsX 0x9234),
     some (.bbr7 0x34 0x92)] ∧
    ([0x73, 0x7B] : List Byte).map unassignedAt =
    [some .rsv73, some .rsv7B] := ⟨rfl, rfl⟩

/-- Row 8 of the op-code map (R121), every cell with the operand bytes 0x34 and 0x92 (R103). -/
theorem test_decode_row_8 :
    ([[0x80, 0x34], [0x81, 0x34], [0x84, 0x34], [0x85, 0x34], [0x86, 0x34],
     [0x87, 0x34], [0x88], [0x89, 0x34], [0x8A], [0x8C, 0x34, 0x92],
     [0x8D, 0x34, 0x92], [0x8E, 0x34, 0x92], [0x8F, 0x34, 0x92]] : List (List Byte)).map decodesTo =
    [some (.bra 0x34), some (.staIndX 0x34), some (.styZp 0x34),
     some (.staZp 0x34), some (.stxZp 0x34), some (.smb0 0x34), some .dey,
     some (.bitImm 0x34), some .txa, some (.styAbs 0x9234),
     some (.staAbs 0x9234), some (.stxAbs 0x9234), some (.bbs0 0x34 0x92)] ∧
    ([0x82, 0x83, 0x8B] : List Byte).map unassignedAt =
    [some (.rsv82 ⟨⟩), some .rsv83, some .rsv8B] := ⟨rfl, rfl⟩

/-- Row 9 of the op-code map (R121), every cell with the operand bytes 0x34 and 0x92 (R103). -/
theorem test_decode_row_9 :
    ([[0x90, 0x34], [0x91, 0x34], [0x92, 0x34], [0x94, 0x34], [0x95, 0x34],
     [0x96, 0x34], [0x97, 0x34], [0x98], [0x99, 0x34, 0x92], [0x9A],
     [0x9C, 0x34, 0x92], [0x9D, 0x34, 0x92], [0x9E, 0x34, 0x92],
     [0x9F, 0x34, 0x92]] : List (List Byte)).map decodesTo =
    [some (.bcc 0x34), some (.staIndY 0x34), some (.staInd 0x34),
     some (.styZpX 0x34), some (.staZpX 0x34), some (.stxZpY 0x34),
     some (.smb1 0x34), some .tya, some (.staAbsY 0x9234), some .txs,
     some (.stzAbs 0x9234), some (.staAbsX 0x9234), some (.stzAbsX 0x9234),
     some (.bbs1 0x34 0x92)] ∧
    ([0x93, 0x9B] : List Byte).map unassignedAt =
    [some .rsv93, some .rsv9B] := ⟨rfl, rfl⟩

/-- Row A of the op-code map (R121), every cell with the operand bytes 0x34 and 0x92 (R103). -/
theorem test_decode_row_A :
    ([[0xA0, 0x34], [0xA1, 0x34], [0xA2, 0x34], [0xA4, 0x34], [0xA5, 0x34],
     [0xA6, 0x34], [0xA7, 0x34], [0xA8], [0xA9, 0x34], [0xAA],
     [0xAC, 0x34, 0x92], [0xAD, 0x34, 0x92], [0xAE, 0x34, 0x92],
     [0xAF, 0x34, 0x92]] : List (List Byte)).map decodesTo =
    [some (.ldyImm 0x34), some (.ldaIndX 0x34), some (.ldxImm 0x34),
     some (.ldyZp 0x34), some (.ldaZp 0x34), some (.ldxZp 0x34),
     some (.smb2 0x34), some .tay, some (.ldaImm 0x34), some .tax,
     some (.ldyAbs 0x9234), some (.ldaAbs 0x9234), some (.ldxAbs 0x9234),
     some (.bbs2 0x34 0x92)] ∧
    ([0xA3, 0xAB] : List Byte).map unassignedAt =
    [some .rsvA3, some .rsvAB] := ⟨rfl, rfl⟩

/-- Row B of the op-code map (R121), every cell with the operand bytes 0x34 and 0x92 (R103). -/
theorem test_decode_row_B :
    ([[0xB0, 0x34], [0xB1, 0x34], [0xB2, 0x34], [0xB4, 0x34], [0xB5, 0x34],
     [0xB6, 0x34], [0xB7, 0x34], [0xB8], [0xB9, 0x34, 0x92], [0xBA],
     [0xBC, 0x34, 0x92], [0xBD, 0x34, 0x92], [0xBE, 0x34, 0x92],
     [0xBF, 0x34, 0x92]] : List (List Byte)).map decodesTo =
    [some (.bcs 0x34), some (.ldaIndY 0x34), some (.ldaInd 0x34),
     some (.ldyZpX 0x34), some (.ldaZpX 0x34), some (.ldxZpY 0x34),
     some (.smb3 0x34), some .clv, some (.ldaAbsY 0x9234), some .tsx,
     some (.ldyAbsX 0x9234), some (.ldaAbsX 0x9234), some (.ldxAbsY 0x9234),
     some (.bbs3 0x34 0x92)] ∧
    ([0xB3, 0xBB] : List Byte).map unassignedAt =
    [some .rsvB3, some .rsvBB] := ⟨rfl, rfl⟩

/-- Row C of the op-code map (R121), every cell with the operand bytes 0x34 and 0x92 (R103). -/
theorem test_decode_row_C :
    ([[0xC0, 0x34], [0xC1, 0x34], [0xC4, 0x34], [0xC5, 0x34], [0xC6, 0x34],
     [0xC7, 0x34], [0xC8], [0xC9, 0x34], [0xCA], [0xCC, 0x34, 0x92],
     [0xCD, 0x34, 0x92], [0xCE, 0x34, 0x92], [0xCF, 0x34, 0x92]] : List (List Byte)).map decodesTo =
    [some (.cpyImm 0x34), some (.cmpIndX 0x34), some (.cpyZp 0x34),
     some (.cmpZp 0x34), some (.decZp 0x34), some (.smb4 0x34), some .iny,
     some (.cmpImm 0x34), some .dex, some (.cpyAbs 0x9234),
     some (.cmpAbs 0x9234), some (.decAbs 0x9234), some (.bbs4 0x34 0x92)] ∧
    ([0xC2, 0xC3, 0xCB] : List Byte).map unassignedAt =
    [some (.rsvC2 ⟨⟩), some .rsvC3, some .rsvCB] := ⟨rfl, rfl⟩

/-- Row D of the op-code map (R121), every cell with the operand bytes 0x34 and 0x92 (R103). -/
theorem test_decode_row_D :
    ([[0xD0, 0x34], [0xD1, 0x34], [0xD2, 0x34], [0xD5, 0x34], [0xD6, 0x34],
     [0xD7, 0x34], [0xD8], [0xD9, 0x34, 0x92], [0xDA], [0xDD, 0x34, 0x92],
     [0xDE, 0x34, 0x92], [0xDF, 0x34, 0x92]] : List (List Byte)).map decodesTo =
    [some (.bne 0x34), some (.cmpIndY 0x34), some (.cmpInd 0x34),
     some (.cmpZpX 0x34), some (.decZpX 0x34), some (.smb5 0x34), some .cld,
     some (.cmpAbsY 0x9234), some .phx, some (.cmpAbsX 0x9234),
     some (.decAbsX 0x9234), some (.bbs5 0x34 0x92)] ∧
    ([0xD3, 0xD4, 0xDB, 0xDC] : List Byte).map unassignedAt =
    [some .rsvD3, some (.rsvD4 ⟨⟩), some .rsvDB, some (.rsvDC ⟨⟩ ⟨⟩)] := ⟨rfl, rfl⟩

/-- Row E of the op-code map (R121), every cell with the operand bytes 0x34 and 0x92 (R103). -/
theorem test_decode_row_E :
    ([[0xE0, 0x34], [0xE1, 0x34], [0xE4, 0x34], [0xE5, 0x34], [0xE6, 0x34],
     [0xE7, 0x34], [0xE8], [0xE9, 0x34], [0xEA], [0xEC, 0x34, 0x92],
     [0xED, 0x34, 0x92], [0xEE, 0x34, 0x92], [0xEF, 0x34, 0x92]] : List (List Byte)).map decodesTo =
    [some (.cpxImm 0x34), some (.sbcIndX 0x34), some (.cpxZp 0x34),
     some (.sbcZp 0x34), some (.incZp 0x34), some (.smb6 0x34), some .inx,
     some (.sbcImm 0x34), some .nop, some (.cpxAbs 0x9234),
     some (.sbcAbs 0x9234), some (.incAbs 0x9234), some (.bbs6 0x34 0x92)] ∧
    ([0xE2, 0xE3, 0xEB] : List Byte).map unassignedAt =
    [some (.rsvE2 ⟨⟩), some .rsvE3, some .rsvEB] := ⟨rfl, rfl⟩

/-- Row F of the op-code map (R121), every cell with the operand bytes 0x34 and 0x92 (R103). -/
theorem test_decode_row_F :
    ([[0xF0, 0x34], [0xF1, 0x34], [0xF2, 0x34], [0xF5, 0x34], [0xF6, 0x34],
     [0xF7, 0x34], [0xF8], [0xF9, 0x34, 0x92], [0xFA], [0xFD, 0x34, 0x92],
     [0xFE, 0x34, 0x92], [0xFF, 0x34, 0x92]] : List (List Byte)).map decodesTo =
    [some (.beq 0x34), some (.sbcIndY 0x34), some (.sbcInd 0x34),
     some (.sbcZpX 0x34), some (.incZpX 0x34), some (.smb7 0x34), some .sed,
     some (.sbcAbsY 0x9234), some .plx, some (.sbcAbsX 0x9234),
     some (.incAbsX 0x9234), some (.bbs7 0x34 0x92)] ∧
    ([0xF3, 0xF4, 0xFB, 0xFC] : List Byte).map unassignedAt =
    [some .rsvF3, some (.rsvF4 ⟨⟩), some .rsvFB, some (.rsvFC ⟨⟩ ⟨⟩)] := ⟨rfl, rfl⟩

/-- The table's numbering: the first byte is bits 7 to 0; a byte the row has no bits for is 0. -/
theorem test_decodeTableWord : decodeTableWord 24 0x1234AD = some (.ldaAbs 0x1234) ∧
    decodeTableWord 16 0x05A9 = some (.ldaImm 0x05) ∧ decodeTableWord 8 0xEA = some .nop := ⟨rfl, rfl, rfl⟩

theorem test_withFetchWord_runs : after (State.reset.withFetchWord 16 0x80A9) (fun t => (t.a, t.p.n, t.pc)) =
    some (0x80, true, 0x0002) := rfl

/-! Loads, stores, transfers -/

/-- S2. -/
theorem test_lda_zpX_wraps : after ({ poke (start [0xB5, 0xF0]) [(0x0010, 0x77), (0x0110, 0x99)] with x := 0x20 })
    (fun t => (t.a, nvdizc t, t.pc, t.tcu)) =
    some (0x77, [false, false, false, false, false, false], 0x0202, 4) := rfl
/-- S3. -/
theorem test_lda_indX_wraps : after ({ poke (start [0xA1, 0xFF]) [(0x0004, 0x30), (0x3000, 0xAB)] with x := 0x04 })
    (fun t => (t.a, t.p.n, t.p.z, t.pc, t.tcu)) = some (0xAB, true, false, 0x0202, 6) := rfl
/-- S4. -/
theorem test_lda_indY_crosses :
    after ({ poke (start [0xB1, 0x40]) [(0x0040, 0xF8), (0x0041, 0x20), (0x2108, 0xCD)] with y := 0x10 })
    (fun t => (t.a, t.p.n, t.p.z, t.pc, t.tcu)) = some (0xCD, true, false, 0x0202, 6) := rfl
/-- L6. -/
theorem test_lda_absY_wraps_64k : after ({ poke (start [0xB9, 0xFF, 0xFF]) [(0x0001, 0x33)] with y := 0x02 })
    (fun t => (t.a, t.p.n, t.p.z, t.pc, t.tcu)) = some (0x33, false, false, 0x0203, 5) := rfl
/-- L8. -/
theorem test_lda_indY_pointer_at_FF :
    after ({ poke (start [0xB1, 0xFF]) [(0x0000, 0x30), (0x3005, 0x66)] with y := 0x05 })
    (fun t => (t.a, t.tcu)) = some (0x66, 5) := rfl
/-- L10. -/
theorem test_ldx_zpY_wraps : after ({ poke (start [0xB6, 0xFF]) [(0x0002, 0xEE)] with y := 0x03 })
    (fun t => (t.x, t.p.n, t.p.z, t.pc)) = some (0xEE, true, false, 0x0202) := rfl
/-- L13. -/
theorem test_ldy_zero : after ({ start [0xA0, 0x00] with y := 0x07 }) (fun t => (t.y, t.p.n, t.p.z)) =
    some (0x00, false, true) := rfl
/-- L15. -/
theorem test_sta_absX : after ({ start [0x9D, 0x01, 0x20] with a := 0xCD, x := 0xFF })
    (fun t => (t.read 0x2100, t.pc, t.tcu)) = some (0xCD, 0x0203, 5) := rfl
/-- L19. -/
theorem test_stx_zpY_wraps : after ({ start [0x96, 0xFF] with x := 0x44, y := 0x01 })
    (fun t => (t.read 0x0000, t.pc)) = some (0x44, 0x0202) := rfl
/-- L20. -/
theorem test_sty_zpX : after ({ start [0x94, 0x10] with x := 0x05, y := 0x99 }) (fun t => t.read 0x0015) =
    some 0x99 := rfl
/-- L22. -/
theorem test_stz_zp : after ({ poke (start [0x64, 0x44]) [(0x0044, 0xAA)] with a := 0xFF })
    (fun t => (t.read 0x0044, t.a)) = some (0x00, 0xFF) := rfl
/-- L27. -/
theorem test_txs_no_flags : after ({ zero.writeBytes 0x0200 [0x9A] with p := { zero.p with n := true } })
    (fun t => (t.sp, t.p.n, t.p.z, t.pc)) = some (0x00, true, false, 0x0201) := rfl
/-- L25. -/
theorem test_tsx : after ({ start [0xBA] with sp := 0xFD }) (fun t => (t.x, t.p.n, t.p.z)) =
    some (0xFD, true, false) := rfl

/-! Arithmetic -/

/-- A1. -/
theorem test_adc_carry : after ({ start [0x69, 0x01] with a := 0xFF }) (fun t => (t.a, nvdizc t, t.pc, t.tcu)) =
    some (0x00, [false, false, false, false, true, true], 0x0202, 2) := rfl
/-- A2. -/
theorem test_adc_overflow : after ({ start [0x69, 0x01] with a := 0x7F }) (fun t => (t.a, nvdizc t)) =
    some (0x80, [true, true, false, false, false, false]) := rfl
/-- A20. -/
theorem test_sbc_borrow : after ({ start [0xE9, 0x50] with a := 0x50 }) (fun t => (t.a, nvdizc t)) =
    some (0xFF, [true, false, false, false, false, false]) := rfl
/-- A18. -/
theorem test_sbc_overflow : after ({ start [0xE9, 0x01] with a := 0x80, p := { zero.p with c := true } })
    (fun t => (t.a, nvdizc t)) = some (0x7F, [false, true, false, false, false, true]) := rfl
/-- A12 without V. -/
theorem test_adc_decimal : after ({ start [0x69, 0x99] with a := 0x99, p := { zero.p with d := true, c := true } })
    (fun t => (t.a, t.p.n, t.p.z, t.p.c, t.tcu)) = some (0x99, true, false, true, 3) := rfl
/-- A25 without V. -/
theorem test_sbc_decimal : after ({ start [0xE9, 0x13] with a := 0x40, p := { zero.p with d := true } })
    (fun t => (t.a, t.p.n, t.p.z, t.p.c, t.tcu)) = some (0x26, false, false, true, 3) := rfl
/-- A29. -/
theorem test_cmp_less : after ({ start [0xC9, 0x41] with a := 0x40, p := { zero.p with c := true } })
    (fun t => (t.a, nvdizc t)) = some (0x40, [true, false, false, false, false, false]) := rfl
/-- A33. -/
theorem test_cpx : after ({ start [0xE0, 0x00] with x := 0xFF }) nvdizc =
    some [true, false, false, false, false, true] := rfl
/-- A36. -/
theorem test_cpy_abs : after ({ poke (start [0xCC, 0x00, 0x10]) [(0x1000, 0x80)] with y := 0x7F })
    (fun t => (nvdizc t, t.tcu)) = some ([true, false, false, false, false, false], 4) := rfl
/-- A39. -/
theorem test_dec_absX : after ({ poke (start [0xDE, 0xFF, 0x1F]) [(0x2000, 0x80)] with x := 0x01 })
    (fun t => (t.read 0x2000, t.p.n, t.p.z, t.pc, t.tcu)) = some (0x7F, false, false, 0x0203, 7) := rfl
/-- A42. -/
theorem test_inc_acc_wraps : after ({ start [0x1A] with a := 0xFF, p := { zero.p with v := true } })
    (fun t => (t.a, nvdizc t)) = some (0x00, [false, true, false, false, true, false]) := rfl

/-! Logic, shifts, bits -/

/-- B3. -/
theorem test_and_ind : after ({ poke (start [0x32, 0x10]) [(0x0011, 0x20), (0x2000, 0x18)] with a := 0x3C })
    (fun t => (t.a, t.p.n, t.p.z, t.tcu)) = some (0x18, false, false, 5) := rfl
/-- B8. -/
theorem test_bit_zp : after ({ poke (start [0x24, 0x10]) [(0x0010, 0xC0)] with a := 0x01 })
    (fun t => (t.a, nvdizc t)) = some (0x01, [true, true, false, false, true, false]) := rfl
/-- B12. -/
theorem test_bit_imm : after ({ start [0x89, 0xC0] with a := 0xF0 }) nvdizc =
    some [false, false, false, false, false, false] := rfl
/-- B14. -/
theorem test_trb : after ({ poke (start [0x14, 0x10]) [(0x0010, 0xFF)] with a := 0x0F })
    (fun t => (t.read 0x0010, t.p.z, t.tcu)) = some (0xF0, false, 5) := rfl
/-- B17. -/
theorem test_tsb : after ({ poke (start [0x04, 0x10]) [(0x0010, 0xF0)] with a := 0x0F })
    (fun t => (t.read 0x0010, t.p.z, t.p.n)) = some (0xFF, true, false) := rfl
/-- B26. -/
theorem test_rol : after ({ start [0x2A] with a := 0x80, p := { zero.p with c := true } })
    (fun t => (t.a, t.p.n, t.p.z, t.p.c)) = some (0x01, false, false, true) := rfl
/-- B31. -/
theorem test_ror_zpX :
    after ({ poke (start [0x76, 0x10]) [(0x0011, 0x02)] with x := 0x01, p := { zero.p with c := true } })
    (fun t => (t.read 0x0011, t.p.n, t.p.z, t.p.c, t.tcu)) = some (0x81, true, false, false, 6) := rfl
/-- B33. -/
theorem test_rmb7 : after ({ poke (start [0x77, 0x10]) [(0x0010, 0xFF)] with p := { zero.p with n := true, z := true } })
    (fun t => (t.read 0x0010, t.p.n, t.p.z, t.tcu)) = some (0x7F, true, true, 5) := rfl
/-- B35. -/
theorem test_smb0 : after (start [0x87, 0x10]) (fun t => t.read 0x0010) = some 0x01 := rfl

/-! Branches, jumps, subroutines -/

/-- J8: taken to the next instruction, which starts a page. -/
theorem test_bne_page_end : after ({ zero.writeBytes 0x02FE [0xD0, 0x00] with pc := 0x02FE }) (fun t => (t.pc, t.tcu)) =
    some (0x0300, 3) := rfl
/-- J9. -/
theorem test_bpl_wraps : after ({ zero.writeBytes 0x0000 [0x10, 0xFD] with pc := 0x0000 }) (fun t => (t.pc, t.tcu)) =
    some (0xFFFF, 4) := rfl
/-- J14. -/
theorem test_bra_crosses : after ({ zero.writeBytes 0x02F0 [0x80, 0x20] with pc := 0x02F0 }) (fun t => (t.pc, t.tcu)) =
    some (0x0312, 4) := rfl
/-- J17, at the matrix count. -/
theorem test_bbr0_not_taken : after (poke (start [0x0F, 0x10, 0x05]) [(0x0010, 0x01)]) (fun t => (t.pc, t.tcu)) =
    some (0x0203, 5) := rfl
/-- J21 (its cycle count aside, log 20). -/
theorem test_bbs7_taken : after (poke (start [0xFF, 0x10, 0x80]) [(0x0010, 0x80)]) (fun t => t.pc) = some 0x0183 := rfl
/-- J25 (its cycle count aside, log 20). -/
theorem test_jmp_ind_wraps : after (poke (start [0x6C, 0xFF, 0xFF]) [(0x0000, 0x22), (0xFFFF, 0x11)]) (fun t => t.pc) =
    some 0x2211 := rfl
/-- J27. -/
theorem test_jmp_indX_wraps : after ({ poke (start [0x7C, 0xFE, 0xFF]) [(0x0003, 0xC0)] with x := 0x04 })
    (fun t => (t.pc, t.tcu)) = some (0xC000, 6) := rfl
/-- J29. -/
theorem test_jsr_stack_wraps : after ({ zero.writeBytes 0x12FE [0x20, 0x00, 0x80] with pc := 0x12FE, sp := 0x00 })
    (fun t => (t.sp, t.read 0x0100, t.read 0x01FF, t.pc)) = some (0xFE, 0x13, 0x00, 0x8000) := rfl
/-- J31. -/
theorem test_rts_wraps : after ({ poke (start [0x60]) [(0x0100, 0xFF), (0x01FF, 0xFF)] with sp := 0xFE })
    (fun t => (t.sp, t.pc)) = some (0x00, 0x0000) := rfl

/-! Stack, flags, BRK, RTI, the unassigned op codes -/

/-- K2. -/
theorem test_pha_wraps : after ({ start [0x48] with a := 0x42, sp := 0x00 }) (fun t => (t.sp, t.read 0x0100, t.pc)) =
    some (0xFF, 0x42, 0x0201) := rfl
/-- K3. -/
theorem test_php : after ({ start [0x08] with p := { zero.p with n := true, c := true } })
    (fun t => (t.sp, t.read 0x01FF)) = some (0xFE, 0xB1) := rfl
/-- K9. -/
theorem test_pla_wraps : after ({ start [0x68] with a := 0x55 }) (fun t => (t.a, t.sp, t.p.n, t.p.z)) =
    some (0x00, 0x00, false, true) := rfl
/-- K12. -/
theorem test_plp : after ({ poke (start [0x28]) [(0x01FF, 0xCB)] with sp := 0xFE }) nvdizc =
    some [true, true, true, false, true, true] := rfl
/-- K24: the op code's byte is the vector's high byte too. -/
theorem test_brk_wraps :
    after ({ poke zero [(0xFFFE, 0x34)] with pc := 0xFFFF, sp := 0x01, p := { zero.p with i := true } })
    (fun t => (t.sp, nvdizc t, t.read 0x0101, t.read 0x0100, t.read 0x01FF, t.pc)) =
    some (0xFE, [false, false, false, true, false, false], 0x00, 0x01, 0x34, 0x0034) := rfl
/-- K26. -/
theorem test_rti_wraps : after ({ poke (start [0x40]) [(0x0101, 0x90), (0x01FF, 0xC3)] with sp := 0xFE })
    (fun t => (t.sp, nvdizc t, t.pc)) = some (0x01, [true, true, false, false, true, true], 0x9000) := rfl
/-- S18: the length is the parameter, whatever it is. -/
theorem test_reserved_advances : after (start [0x02]) (fun t => t.pc) =
    some (0x0200 + BitVec.ofNat 16 (Config.rsvLen 0x02)) := rfl

/-! Interrupts, reset, pins -/

/-- X1. -/
theorem test_irq_taken :
    after ({ poke zero [(0xFFFF, 0x90)] with
      pc := 0x0250, p := { zero.p with n := true, c := true }, pins := { Pins.inactive with irq := false } })
    (fun t => ([t.read 0x01FF, t.read 0x01FE, t.read 0x01FD, t.sp], nvdizc t, t.pc, t.tcu)) =
    some ([0x02, 0x50, 0xA1, 0xFC], [true, false, false, true, false, true], 0x9000, 7) := rfl
/-- X2. -/
theorem test_irq_masked :
    after ({ poke zero [(0x0250, 0xEA)] with
      pc := 0x0250, p := { zero.p with i := true }, pins := { Pins.inactive with irq := false } })
    (fun t => (t.pc, t.sp)) = some (0x0251, 0xFF) := rfl
/-- X3, the edge given by the schedule. -/
theorem test_nmi_ignores_i :
    after ({ poke zero [(0xFFFA, 0x34), (0xFFFB, 0x12)] with
      pc := 0x0250, p := { zero.p with i := true, d := true, z := true }
      schedule := [{ Boundary.quiet with events := [.nmi false] }] })
    (fun t => ([t.read 0x01FF, t.read 0x01FE, t.read 0x01FD, t.sp], nvdizc t, t.pc, t.nmiPending)) =
    some ([0x02, 0x50, 0x2E, 0xFC], [false, false, false, true, true, false], 0x1234, false) := rfl
/-- X7. -/
theorem test_reset_sequence :
    after ({ poke zero [(0xFFFD, 0xC0)] with pc := 0x1234, p := { zero.p with d := true }, resPending := true })
    (fun t => (t.p.i, t.p.d, t.pc, t.nmiPending, t.mem)) = some (true, false, 0xC000, false, [(0xFFFD, 0xC0)]) := rfl
/-- X8. -/
theorem test_so_sets_v :
    after ({ start [0x50, 0x10] with schedule := [{ Boundary.quiet with events := [.so false] }] })
    (fun t => (t.p.v, t.pc, t.sp)) = some (true, 0x0202, 0xFF) := rfl
/-- X10 (a): right after the CLI. -/
def unmasked : State :=
  { start [0x58, 0xEA, 0xEA] with pc := 0x0201, irqShadow := true, pins := { Pins.inactive with irq := false } }
/-- X10: the state after the CLI, in which the deferral is allowed. -/
theorem test_cli_allows_deferral :
    after ({ start [0x58, 0xEA, 0xEA] with p := { zero.p with i := true }, pins := { Pins.inactive with irq := false } })
    (fun t => (t.pc, t.p.i, t.irqShadow, t.sp)) = some (0x0201, false, true, 0xFF) := rfl
/-- X10 (a). -/
theorem test_irq_at_once : after unmasked (fun t => (t.read 0x01FE, t.sp, t.p.i)) = some (0x01, 0xFC, true) := rfl
/-- X10 (b): the NOP first, and no further deferral. -/
theorem test_irq_deferred :
    after ({ unmasked with schedule := [{ Boundary.quiet with deferIrq := true }] })
    (fun t => (t.pc, t.sp, t.irqShadow)) = some (0x0202, 0xFF, false) := rfl
/-- R350: an instruction that stores nothing, cut by RES, leaves all memory. -/
theorem test_res_cuts :
    after ({ poke (start [0xA5, 0x10]) [(0x0010, 0x22)] with schedule := [{ Boundary.quiet with resWithin := true }] })
    (fun t => (t.mem, t.pins.res, t.resHeld)) =
    some ([(0x0010, 0x22), (0x0200, 0xA5), (0x0201, 0x10)], false, false) := rfl
/-- R315: SO falls within a CLC. -/
theorem test_so_within : after ({ start [0x18] with schedule := [{ Boundary.quiet with soWithin := true }] })
    (fun t => (t.p.v, t.pins.so)) = some (true, false) := rfl
theorem test_busDisabled : refusal ({ start [0xEA] with pins := { Pins.inactive with be := false } }) =
    some .busDisabled := rfl
theorem test_stateLost : refusal ({ start [0xEA] with stateLost := true }) = some .stateLost := rfl
theorem test_resetPulseTooShort :
    refusal ({ start [0xEA] with
      pins := { Pins.inactive with res := false }, schedule := [{ Boundary.quiet with events := [.res true] }] }) =
    some .resetPulseTooShort := rfl

/-- R350: RES low while the clock is stopped is no cycle of the pulse. -/
theorem test_res_without_clock :
    after ({ start [0xEA] with pins := { Pins.inactive with res := false, clock := .heldHigh } })
    (fun t => (t.resHeld, t.pc)) = some (false, 0x0200) := rfl
/-- R350: with the clock running it is. -/
theorem test_res_with_clock : after ({ start [0xEA] with pins := { Pins.inactive with res := false } })
    (fun t => (t.resHeld, t.pc)) = some (true, 0x0200) := rfl
/-- R357: a RES pulse from before the loss is no reset after it. -/
theorem test_loss_forgets_reset :
    refusal ({ start [0xEA] with
      resPending := true, schedule := [{ Boundary.quiet with events := [.clock .heldLow, .clock .running] }] }) =
    some .stateLost := rfl
/-- R319: stopped high, the machine keeps everything. -/
theorem test_standby_keeps : after ({ start [0xA9, 0x80] with a := 0x12, pins := { Pins.inactive with clock := .heldHigh } })
    (fun t => (t.a, t.pc, t.cycles, t.stateLost)) = some (0x12, 0x0200, 0, false) := rfl

/-! The platform and other bus masters -/

/-- A device register at 0xC000 (P9), addresses nothing answers, a ROM. -/
def board (s : State) : State :=
  { s with platform := [⟨0xC000, 0xC000, .device⟩, ⟨0xC001, 0xDFFF, .nothing⟩, ⟨0xE000, 0xFFFF, .rom⟩] }

/-- P9: a write to the device is on the bus, and no byte of memory changes. -/
theorem test_sta_device : after (board ({ start [0x8D, 0x00, 0xC0] with a := 0x01 }))
    (fun t => (t.mem == (start [0x8D, 0x00, 0xC0]).mem, t.bus.getLast?, t.pc)) =
    some (true, some (writeAccess dataPlace 0xC000 0x01), 0x0203) := rfl
/-- R62: a write to ROM changes nothing, and a read of it gives the byte there. -/
theorem test_rom :
    after (board ({ poke (start [0x8D, 0x00, 0xE0]) [(0xE000, 0x77)] with a := 0x01 })) (fun t => t.read 0xE000) =
      some 0x77 ∧
    after (board (poke (start [0xAD, 0x00, 0xE0]) [(0xE000, 0x77)])) (fun t => t.a) = some 0x77 := ⟨rfl, rfl⟩
/-- D21: what nothing answers is the platform's free byte, and N follows it. -/
theorem test_open_bus : after (board (start [0xAD, 0x01, 0xC0])) (fun t => (t.a, t.p.n)) =
    some (Config.platformByte 1 dataPlace 0xC001, (Config.platformByte 1 dataPlace 0xC001).getLsbD 7) := rfl

/-- X9 (A45 with another bus master): INC $1234 with 0x80 written to 0x1234 before a place of the step. -/
def incAgainst (place : Fin 12) : State :=
  { poke (start [0xEE, 0x34, 0x12]) [(0x1234, 0x0F)] with
    schedule := [{ Boundary.quiet with writesWithin := [⟨place, 0x1234, 0x80⟩] }] }

/-- X9: between the second read and the write, the other master's write is lost. -/
theorem test_master_write_lost : after (incAgainst 8) (fun t => (t.read 0x1234, t.p.n, t.p.z, t.pc)) =
    some (0x10, false, false, 0x0203) := rfl
/-- R77: before the first read it is what INC works on. -/
theorem test_master_write_seen : after (incAgainst 6) (fun t => (t.read 0x1234, t.p.n)) = some (0x81, true) := rfl
/-- R77: after the write it stays. -/
theorem test_master_write_last : after (incAgainst 9) (fun t => (t.read 0x1234, t.p.n, t.dma)) =
    some (0x80, false, []) := rfl

/-! The bus -/

/-- S16: TRB ABS. -/
theorem test_bus_trb : accesses true ({ poke (start [0x1C, 0x34, 0x12]) [(0x1234, 0xF1)] with a := 0x0F }) =
    some [(0x0200, 0x1C, false, true, false), (0x0201, 0x34, false, false, false), (0x0202, 0x12, false, false, false),
      (0x1234, 0xF1, false, false, false), (0x1234, 0xF1, false, false, true), (0x1234, 0xF0, true, false, true)] := rfl
/-- The same without the discarded read (R6 `DummyReads`). -/
theorem test_bus_trb_plain : accesses false ({ poke (start [0x1C, 0x34, 0x12]) [(0x1234, 0xF1)] with a := 0x0F }) =
    some [(0x0200, 0x1C, false, true, false), (0x0201, 0x34, false, false, false), (0x0202, 0x12, false, false, false),
      (0x1234, 0xF1, false, false, false), (0x1234, 0xF0, true, false, true)] := rfl
/-- R74: the last instruction byte is read again when an index crosses a page. -/
theorem test_bus_crossing : (accesses true ({ start [0xBD, 0xFF, 0x12] with x := 0xFF })).map (·.map (·.1)) =
    some [0x0200, 0x0201, 0x0202, 0x0202, 0x13FE] := rfl

/-- R76: the second cycle of a 1-byte, 2-cycle instruction is a read too, recorded if `DummyReads` is on. -/
theorem test_bus_nop : accesses false (start [0xEA]) = some [(0x0200, 0xEA, false, true, false)] ∧
    (recordedAccesses true .nop (start [0xEA]) (start [0xEA])).length = 2 :=
  ⟨rfl, (State.fillCycles_listed _ true _ (by decide) _ _).2.1 rfl (by decide)⟩
/-- R74, R76: STA ABS,X takes five cycles without a page crossing, and its five accesses are three fetches, the write,
and one read more. -/
theorem test_bus_fixed_count :
    let s := start [0x9D, 0x00, 0x20]
    (listedAccesses true (.staAbsX 0x2000) s (s.writeAt dataPlace false 0x2000 s.a)).length = 4 ∧
    (recordedAccesses true (.staAbsX 0x2000) s (s.writeAt dataPlace false 0x2000 s.a)).length = 5 :=
  ⟨by decide, (State.fillCycles_listed _ true _ (by decide) _ _).2.1 rfl (by decide)⟩

/-! Witnesses: a concrete state and operands that meet all the hypotheses of a statement together -/

/-- A byte can be read as an instruction, and something is left over. -/
theorem witness_encodeDecode : decode [0xA9, 0x05, 0xEA] = .ok (.ldaImm 0x05, [0xEA]) ∧
    unassigned (opcode (.ldaImm 0x05)) = false := ⟨rfl, rfl⟩

/-- An unassigned op code with as many bytes as the longest may take. -/
theorem witness_encodeDecode_unassigned : ∃ rest, decode [0x03, 0x34, 0x92] = .ok (.rsv03, rest) := by
  refine ⟨[0x34, 0x92].drop (Config.rsvLen 0x03 - 1), ?_⟩
  have h : ¬ ([0x34, 0x92] : List Byte).length + 1 < opLength 0x03 := by
    show ¬ 3 < (Config.rsvLenMinusOne 0x03).val + 1
    have := (Config.rsvLenMinusOne 0x03).isLt
    omega
  rw [decode, if_neg h]
  rfl

/-- Both clauses on lengths, at the first and the last op code of the map and at unassigned ones beside them. -/
theorem witness_decodeWellFormed : unassigned 0x00 = false ∧ unassigned 0xFF = false ∧ unassigned 0x02 = true ∧
    unassigned 0xFC = true := by decide

/-- An instruction stored across the end of the address space. -/
theorem witness_fetchStored :
    let s : State := { zero with pc := 0xFFFF }
    s.dma = [] ∧ ∀ k < (encode (.ldaAbs 0x1234)).length, kindAt s.platform (s.pc + BitVec.ofNat 16 k) = .ram :=
  ⟨rfl, fun _ _ => rfl⟩

theorem start_live (bytes : List Byte) : Live (zero.writeBytes zero.pc bytes) :=
  have h : ∀ (l : List Byte) (s : State) (a : Word), Live s → Live (s.writeBytes a l) := by
    intro l
    induction l with
    | nil => intro s a h; exact h
    | cons v l ih =>
      intro s a h
      exact ih _ _ ⟨⟨h.res_high, h.clock_runs, h.rdy_high, h.be_high, h.no_reset, h.state_kept⟩, h.schedule_nil⟩
  h bytes _ _ ⟨⟨rfl, rfl, rfl, rfl, rfl, rfl⟩, rfl⟩

/-- The hypotheses of `StepRunsInstruction` on the instruction `i`, that state's `u` written as `s.begin`. -/
def Runs (s : State) (i : Instr) (rest : List Byte) : Prop :=
  Ready s ∧ NoPinEvent s.boundary ∧ NoInterrupt s ∧
    decode [s.begin.readAt fetchPlace s.pc, s.begin.readAt (fetchPlace + 1) (s.pc + 1),
      s.begin.readAt (fetchPlace + 2) (s.pc + 2)] = .ok (i, rest) ∧
    ∃ t, exec i s.begin = .next t

/-- IRQ high, nothing scheduled. -/
theorem witness_stepRunsInstruction : Runs (start [0xA9, 0x80]) (.ldaImm 0x80) [0x00] :=
  ⟨(start_live _).toReady, ⟨rfl, rfl, rfl⟩, ⟨rfl, .inl rfl⟩, rfl, _, rfl⟩

/-- IRQ low and masked. -/
theorem witness_stepRunsInstruction_masked :
    Runs { start [0xEA] with p := { zero.p with i := true }, pins := { Pins.inactive with irq := false } } .nop [0x00, 0x00] :=
  ⟨⟨rfl, rfl, rfl, rfl, rfl, rfl⟩, ⟨rfl, rfl, rfl⟩, ⟨rfl, .inr rfl⟩, rfl, _, rfl⟩

/-- Another bus master changes the operand before it is fetched. -/
theorem witness_stepRunsInstruction_master :
    Runs { start [0xA9, 0x80] with schedule := [{ Boundary.quiet with writesWithin := [⟨1, 0x0201, 0x7F⟩] }] }
      (.ldaImm 0x7F) [0x00] :=
  ⟨⟨rfl, rfl, rfl, rfl, rfl, rfl⟩, ⟨rfl, rfl, rfl⟩, ⟨rfl, .inl rfl⟩, rfl, _, rfl⟩

/-- The start state meets the invariant and its step answers a next state. -/
theorem witness_invKept : (start [0xE8]).Inv ∧ ∃ t, step (start [0xE8]) = .next t :=
  ⟨⟨by decide, nofun, nofun, nofun, fun _ => by decide, rfl⟩, _, rfl⟩

theorem witness_adcBinaryResult : zero.p.d = false ∧ (⟨.adcImm 0xFF, 0xFF, 2⟩ : ReadForm) ∈ adcForms zero 0xFF 0x0000 :=
  ⟨rfl, .head _⟩

theorem witness_sbcBinaryResult : zero.p.d = false ∧ (⟨.sbcImm 0xFF, 0xFF, 2⟩ : ReadForm) ∈ sbcForms zero 0xFF 0x0000 :=
  ⟨rfl, .head _⟩

/-- A state in decimal mode with A = 99. -/
def decimal (a : Byte) : State := { zero with a := a, p := { zero.p with d := true } }

theorem witness_adcDecimalResult : (decimal 0x99).p.d = true ∧ isBcd (decimal 0x99).a ∧ isBcd 0x99 ∧
    (⟨.adcImm 0x99, 0x99, 2⟩ : ReadForm) ∈ adcForms (decimal 0x99) 0x99 0x0000 :=
  ⟨rfl, by unfold isBcd; decide, by unfold isBcd; decide, .head _⟩

theorem witness_sbcDecimalResult : (decimal 0x00).p.d = true ∧ isBcd (decimal 0x00).a ∧ isBcd 0x01 ∧
    (⟨.sbcImm 0x01, 0x01, 2⟩ : ReadForm) ∈ sbcForms (decimal 0x00) 0x01 0x0000 :=
  ⟨rfl, by unfold isBcd; decide, by unfold isBcd; decide, .head _⟩

/-- The first byte that is not valid BCD. -/
theorem witness_decimalInvalidResult : (decimal 0x0A).p.d = true ∧ ¬ (isBcd (decimal 0x0A).a ∧ isBcd 0x01) ∧
    (⟨.adcImm 0x01, 0x01, 2⟩ : ReadForm) ∈ adcForms (decimal 0x0A) 0x01 0x0000 ∧
    (⟨.sbcImm 0x01, 0x01, 2⟩ : ReadForm) ∈ sbcForms (decimal 0x0A) 0x01 0x0000 :=
  ⟨rfl, by unfold isBcd; decide, .head _, .head _⟩

/-- How many forms each quantified list holds: the counts of the op-code map. -/
theorem witness_forms : (ldaForms zero 0 0).length = 9 ∧ (ldxForms zero 0 0).length = 5 ∧
    (ldyForms zero 0 0).length = 5 ∧ (staForms zero 0 0).length = 8 ∧ (stxForms zero 0 0).length = 3 ∧
    (styForms zero 0 0).length = 3 ∧ (stzForms zero 0 0).length = 4 ∧ (cmpForms zero 0 0).length = 9 ∧
    (cpxForms zero 0 0).length = 3 ∧ (cpyForms zero 0 0).length = 3 ∧ (bitForms zero 0 0).length = 4 ∧
    (trbForms 0 0).length = 2 ∧ (tsbForms 0 0).length = 2 ∧ (lockedForms zero 0 0).length = 28 ∧
    (flagBranches zero).length = 8 ∧ (flagForms zero.p).length = 8 ∧ unassignedInstrs.length = 46 ∧
    (adcCycles zero 0 0).length = 9 ∧ (indexedLoadCycles zero 0 0).length = 6 ∧ (indexedStoreCycles 0 0).length = 9 :=
  ⟨rfl, rfl, rfl, rfl, rfl, rfl, rfl, rfl, rfl, rfl, rfl, rfl, rfl, rfl, rfl, rfl, rfl, rfl, rfl, rfl⟩

/-- The bits at the ends of the byte, the one named and another (RMB, SMB, BBR, BBS, TRB, TSB). -/
theorem witness_bits : (∃ n : Fin 8, (0 : Nat) < 8 ∧ 0 = n.val) ∧ (∃ n : Fin 8, (7 : Nat) < 8 ∧ 7 = n.val) ∧
    (∃ n : Fin 8, (7 : Nat) < 8 ∧ 7 ≠ n.val) := ⟨⟨0, by decide, rfl⟩, ⟨7, by decide, rfl⟩, ⟨0, by decide, by decide⟩⟩

/-- Every clause of an entry's memory at a stack pointer where it wraps: three different bytes of page one, and one
that is none of them. -/
theorem witness_entryBytes : stackAddr 0x01 = 0x0101 ∧ stackAddr (0x01 - 1) = 0x0100 ∧ stackAddr (0x01 - 2) = 0x01FF ∧
    (0x0200 : Word) ≠ stackAddr 0x01 ∧ (0x0200 : Word) ≠ stackAddr (0x01 - 1) ∧
    (0x0200 : Word) ≠ stackAddr (0x01 - 2) := by decide

/-- RAM in page one and no other bus master at work, at a stack pointer where the pushes wrap, with an address that is
none of the bytes pushed: the hypotheses of `StackOperations`, `PushThenPull`, `CallThenReturn` and `EntryThenReturn`. -/
theorem witness_stack :
    let s : State := { board zero with sp := 0x01 }
    s.dma = [] ∧ kindAt s.platform (stackAddr s.sp) = .ram ∧ kindAt s.platform (stackAddr (s.sp - 1)) = .ram ∧
      (∀ k : Byte, k.toNat < 3 → kindAt s.platform (stackAddr (s.sp - k)) = .ram) ∧
      (0x0200 : Word) ≠ stackAddr s.sp ∧ (0x0200 : Word) ≠ stackAddr (s.sp - 1) ∧ (0x0200 : Word) ≠ stackAddr (s.sp - 2) := by
  decide

/-- A live state with an NMI edge remembered or not, IRQ low or high, and I. -/
def due (nmi irqHigh i : Bool) : State :=
  { zero with nmiPending := nmi, p := { zero.p with i := i }, pins := { Pins.inactive with irq := irqHigh } }

theorem witness_irqTaken : Live (due false false false) ∧ (due false false false).nmiPending = false ∧
    (due false false false).pins.irq = false ∧ (due false false false).p.i = false :=
  ⟨⟨⟨rfl, rfl, rfl, rfl, rfl, rfl⟩, rfl⟩, rfl, rfl, rfl⟩

/-- With IRQ high. -/
theorem witness_nmiTaken : Live (due true true false) ∧ (due true true false).nmiPending = true ∧
    ((due true true false).pins.irq = true ∨ (due true true false).p.i = true) :=
  ⟨⟨⟨rfl, rfl, rfl, rfl, rfl, rfl⟩, rfl⟩, rfl, .inl rfl⟩

/-- With IRQ low and masked. -/
theorem witness_nmiTaken_masked : Live (due true false true) ∧ (due true false true).nmiPending = true ∧
    (due true false true).pins.irq = false ∧
    ((due true false true).pins.irq = true ∨ (due true false true).p.i = true) :=
  ⟨⟨⟨rfl, rfl, rfl, rfl, rfl, rfl⟩, rfl⟩, rfl, rfl, .inr rfl⟩

theorem witness_nmiAndIrqTogether : Live (due true false false) ∧ (due true false false).nmiPending = true ∧
    (due true false false).pins.irq = false ∧ (due true false false).p.i = false :=
  ⟨⟨⟨rfl, rfl, rfl, rfl, rfl, rfl⟩, rfl⟩, rfl, rfl, rfl⟩

/-- A state whose next step defers, with the mark of R304 (d) or without. -/
def deferring (shadow : Bool) : State :=
  { start [0xEA] with irqShadow := shadow, pins := { Pins.inactive with irq := false }, schedule := [deferral] }

theorem witness_irqDeferral : ∀ shadow,
    Ready (deferring shadow) ∧ (deferring shadow).schedule = [deferral] ∧ (deferring shadow).nmiPending = false ∧
      (deferring shadow).pins.irq = false ∧ (deferring shadow).p.i = false ∧ (deferring shadow).irqShadow = shadow :=
  fun _ => ⟨⟨rfl, rfl, rfl, rfl, rfl, rfl⟩, rfl, rfl, rfl, rfl, rfl⟩

/-- After the deferred step I is still clear. -/
theorem witness_irqDeferral_next : after (deferring true) (fun t => t.p.i) = some false := rfl

/-- A CLI that clears I leaves the mark. -/
theorem witness_irqDeferral_mark : Live { start [0x58] with p := { zero.p with i := true } } ∧
    after ({ start [0x58] with p := { zero.p with i := true } }) (fun t => t.irqShadow) = some true :=
  ⟨⟨⟨rfl, rfl, rfl, rfl, rfl, rfl⟩, rfl⟩, rfl⟩

/-- The start state with other pin levels. -/
def withPins (pins : Pins) : State := { zero with pins := pins }

/-- Each clause on the RES pin (`PinEvents`): the level it has, its fall, its rise after a step of low. -/
theorem witness_pinEvents : zero.pins.res = true ∧ (withPins { Pins.inactive with res := false }).pins.res = false ∧
    ({ withPins { Pins.inactive with res := false } with resHeld := true } : State).resHeld = true := ⟨rfl, rfl, rfl⟩

theorem witness_suspended_rdy :
    let s := withPins { Pins.inactive with rdy := false }
    s.schedule = [] ∧ s.pins.clock ≠ .heldLow ∧ s.stateLost = false ∧ s.pins.res = true ∧
      (s.pins.rdy = false ∨ s.pins.clock = .heldHigh) := ⟨rfl, by decide, rfl, rfl, .inl rfl⟩

theorem witness_suspended_clock :
    let s := withPins { Pins.inactive with clock := .heldHigh }
    s.schedule = [] ∧ s.pins.clock ≠ .heldLow ∧ s.stateLost = false ∧ s.pins.res = true ∧
      (s.pins.rdy = false ∨ s.pins.clock = .heldHigh) := ⟨rfl, by decide, rfl, rfl, .inr rfl⟩

/-- RES low with the clock running, and with it stopped. -/
theorem witness_suspended_res :
    let s := withPins { Pins.inactive with res := false }
    let s' := withPins { Pins.inactive with res := false, clock := .heldHigh }
    (s.schedule = [] ∧ s.pins.clock ≠ .heldLow ∧ s.stateLost = false ∧ s.pins.res = false) ∧
      s'.schedule = [] ∧ s'.pins.clock ≠ .heldLow ∧ s'.stateLost = false ∧ s'.pins.res = false :=
  ⟨⟨rfl, by decide, rfl, rfl⟩, rfl, by decide, rfl, rfl⟩

theorem witness_resetTaken :
    let s : State := { zero with resPending := true }
    s.schedule = [] ∧ s.pins.res = true ∧ s.pins.clock = .running ∧ s.pins.rdy = true ∧ s.pins.be = true ∧
      s.resPending = true := ⟨rfl, rfl, rfl, rfl, rfl, rfl⟩

theorem witness_resetPulseRestarts :
    let s : State := { zero with schedule := resetPulse }
    s.pins = Pins.inactive ∧ s.schedule = resetPulse := ⟨rfl, rfl⟩

/-- SO high, no interrupt due, an instruction that does not write V, a store and an address it does not write. -/
theorem witness_edgesWithinStep :
    let s := start [0x85, 0x10]
    Live s ∧ s.pins.so = true ∧ NoInterrupt s ∧ writesOverflow s.begin.fetch = false ∧
      ∃ t, step s = .next t ∧ ∀ access ∈ t.bus, access.write = true → access.addr ≠ 0x0011 :=
  ⟨start_live _, rfl, ⟨rfl, .inl rfl⟩, rfl, _, rfl, by decide⟩

/-- SO low already. -/
theorem witness_edgesWithinStep_low :
    let s : State := { start [0xEA] with pins := { Pins.inactive with so := false } }
    Live s ∧ s.pins.so = false ∧ ∃ t, step s = .next t := ⟨⟨⟨rfl, rfl, rfl, rfl, rfl, rfl⟩, rfl⟩, rfl, _, rfl⟩

theorem witness_unsupported_busDisabled :
    let s := withPins { Pins.inactive with be := false }
    s.schedule = [] ∧ s.pins.res = true ∧ s.pins.clock = .running ∧ s.pins.rdy = true ∧ s.pins.be = false :=
  ⟨rfl, rfl, rfl, rfl, rfl⟩

theorem witness_unsupported_pulse :
    let s := withPins { Pins.inactive with res := false }
    s.pins.res = false ∧ s.resHeld = false := ⟨rfl, rfl⟩

theorem witness_unsupported_stateLost :
    let s : State := { zero with stateLost := true }
    s.schedule = [] ∧ s.pins.res = true ∧ s.pins.clock = .running ∧ s.pins.rdy = true ∧ s.pins.be = true ∧
      s.resPending = false ∧ s.stateLost = true := ⟨rfl, rfl, rfl, rfl, rfl, rfl, rfl⟩

/-- A step that is refused (the last clause of `NothingFaults`). -/
theorem witness_nothingFaults : step (withPins { Pins.inactive with be := false }) = .refused .busDisabled := rfl

theorem witness_quietRuns : State.reset.Quiet := ⟨rfl, rfl, rfl, rfl, rfl⟩

/-- Each clause of `PlatformAccess`, at the ends of regions: a device, nothing at its two ends, ROM at its two ends, RAM
on either side of them. -/
theorem witness_platformAccess :
    let s := board zero
    kindAt s.platform 0xC000 = .device ∧ kindAt s.platform 0xC001 = .nothing ∧ kindAt s.platform 0xDFFF = .nothing ∧
      kindAt s.platform 0xE000 = .rom ∧ kindAt s.platform 0xFFFF = .rom ∧ kindAt s.platform 0xBFFF = .ram ∧
      kindAt s.platform 0x0000 = .ram := by decide

/-- Another bus master at each place where a clause of `OtherMasters` turns, and RAM at the pointer it changes. -/
theorem witness_otherMasters : ∀ place ∈ ([4, 5, 6, 7, 8, 9] : List (Fin 12)),
    let s : State := { zero with dma := [⟨place, 0x1235, 0x80⟩] }
    s.dma = [⟨place, 0x1234 + 1, 0x80⟩] ∧ kindAt s.platform 0x1234 = .ram ∧ kindAt s.platform (0x1234 + 1) = .ram := by
  decide

/-- A store and a push pair answer next states (`BusWritesExplainMemory`, `FetchLabels`, `ExecFootprint`). -/
theorem witness_exec : zero.dma = [] ∧ zero.bus = [] ∧ (∃ t, exec (.staZp 0x10) zero = .next t) ∧
    ∃ t, exec (.jsr 0x1234) zero = .next t := ⟨rfl, rfl, ⟨_, rfl⟩, _, rfl⟩

/-- Each clause of `BusWritesExplainMemory`: a read of RAM, and a store, which spends a cycle beyond its accesses. -/
theorem witness_busWritesExplainMemory : ∃ t after, exec (.staAbsX 0x1234) zero = .next t ∧
    (listedAccesses false (.staAbsX 0x1234) zero t).length < cyclesOf (.staAbsX 0x1234) zero ∧
    recordedAccesses false (.staAbsX 0x1234) zero t = [] ++ { zero.readAccess 0 zero.pc with sync := true } :: after ∧
    kindAt zero.platform zero.pc = .ram ∧
    (⟨.staAbsX 0x1234, eaAbsX 0x1234 zero, 3⟩ : StoreForm) ∈ staForms zero 0x00 0x1234 :=
  ⟨_, _, rfl, by decide, State.fillCycles_false .., rfl, by simp [staForms]⟩

theorem witness_modifyAccesses : zero.bus = [] ∧ kindAt zero.platform (eaZp 0xFF) = .ram ∧
    (⟨.aslZp 0xFF, eaZp 0xFF, 2⟩ : StoreForm) ∈ lockedForms zero 0xFF 0x0000 ∧
    (∃ t, exec (.aslZp 0xFF) zero = .next t) ∧ (∃ t, exec (rmb 0 0xFF) zero = .next t) ∧
    ∃ t, exec (smb 7 0xFF) zero = .next t :=
  ⟨rfl, rfl, List.mem_append_left _ (List.mem_append_left _ (List.mem_append_left _ (List.mem_append_left _
    (List.mem_append_left _ (List.mem_append_left _ (List.mem_append_left _ (.head _))))))), ⟨_, rfl⟩, ⟨_, rfl⟩, _, rfl⟩

/-- Each clause of `WhoWrites` has an instruction that changes the flag or S. -/
theorem witness_whoWrites : (∃ t, exec .sed zero = .next t ∧ t.p.d ≠ zero.p.d) ∧
    (∃ t, exec .sei zero = .next t ∧ t.p.i ≠ zero.p.i) ∧
    (∃ t, exec (.bitZp 0x10) (poke zero [(0x0010, 0x40)]) = .next t ∧ t.p.v ≠ zero.p.v) ∧
    (∃ t, exec .pha zero = .next t ∧ t.sp ≠ zero.sp) ∧ (∃ t, exec (.jsr 0x0000) zero = .next t ∧ t.sp ≠ zero.sp) :=
  ⟨⟨_, rfl, by decide⟩, ⟨_, rfl, by decide⟩, ⟨_, rfl, by decide⟩, ⟨_, rfl, by decide⟩, ⟨_, rfl, by decide⟩⟩

/-- The boundary values of the cycle counts: the last index in the page and the first in the next, a branch to the
same page and to another, decimal mode, a pointer at FF and just below (C4: base 6, 7 at FF). -/
theorem witness_cycleCounts : cyclesOf (.ldaAbsX 0x12FF) zero = 4 ∧
    cyclesOf (.ldaAbsX 0x12FF) { zero with x := 0x01 } = 5 ∧ cyclesOf (.staAbsX 0x12FF) { zero with x := 0x01 } = 5 ∧
    cyclesOf (.bcc 0x7F) zero = 3 ∧ cyclesOf (.bcc 0x80) zero = 4 ∧ cyclesOf (.bcs 0x7F) zero = 2 ∧
    cyclesOf (.bra 0x7F) zero = 3 ∧ cyclesOf (.bra 0x80) zero = 4 ∧ cyclesOf (bbr 0 0x10 0x7F) zero = 6 ∧
    cyclesOf (bbs 7 0x10 0x7F) zero = 5 ∧ cyclesOf (.adcAbsX 0x12FF) { decimal 0x00 with x := 0x01 } = 6 ∧
    cyclesOf (.jmpInd 0x30FE) zero = 6 ∧ cyclesOf (.jmpInd 0x30FF) zero = 7 := by decide

end Sys2Proof.Tests
end

/-! PROOFS. What an instruction can do, said once for all 256: it changes registers, flags and `pc`, and makes as many
writes as its cell of the op-code map says. The frame of an instruction, the canonical form of memory, and the length of
its bus record are read off this. -/

namespace Sys2Proof.Machine

/-- How many writes an instruction with these data accesses makes. -/
def DataAccess.writes : DataAccess → Nat
  | .none | .read | .pull _ => 0
  | .write | .modify | .modifyBit => 1
  | .push n => n
  | .breakEntry => 3

/-- `t` is reached from `s` by changes of registers, flags and `pc`, and by `n` writes at places of the step. -/
inductive Effect (s : State) : Nat → State → Prop where
  | refl : Effect s 0 s
  | registers {n : Nat} {t : State} (h : Effect s n t) (a x y sp : Byte) (pc : Word) (p : Flags) :
      Effect s n { t with a := a, x := x, y := y, sp := sp, pc := pc, p := p }
  | write {n : Nat} {t : State} (h : Effect s n t) (place : Nat) (ml : Bool) (addr : Word) (v : Byte) :
      Effect s (n + 1) (t.writeAt place ml addr v)

/-- An answer that is a next state with `n` writes made. -/
def Answers (s : State) (n : Nat) (o : Out) : Prop := ∃ t, o = .next t ∧ Effect s n t

section Operations

variable {s t : State} {n : Nat}

theorem Effect.pull (s : State) : Effect s 0 s.pull := Effect.refl.registers ..

theorem Effect.advance (h : Effect s n t) (len : Nat) : Effect s n (t.advance len) := h.registers ..

theorem Effect.push (h : Effect s n t) (place : Nat) (v : Byte) : Effect s (n + 1) (t.push place v) :=
  (h.write place false (stackAddr t.sp) v).registers ..

theorem Effect.pushWord (h : Effect s n t) (w : Word) : Effect s (n + 2) (t.pushWord w) :=
  (h.push dataPlace (highByte w)).push (dataPlace + 1) (lowByte w)

theorem Effect.enterInterrupt (s : State) (vector : Word) (b : Bool) (ret : Word) :
    Effect s 3 (s.enterInterrupt vector b ret) :=
  ((Effect.refl.pushWord ret).push (dataPlace + 2) (s.p.image b)).registers ..

/-! What the writes leave -/

/-- Everything but registers, flags, memory and the record of the step is as before; the record grows, and the writes
that other bus masters still have to make run down. -/
def Footprint (s t : State) : Prop :=
  t = { s with
    a := t.a, x := t.x, y := t.y, sp := t.sp, pc := t.pc, p := t.p, mem := t.mem, dma := t.dma, bus := t.bus } ∧
  s.bus <+: t.bus ∧ t.dma <:+ s.dma

theorem Effect.footprint (h : Effect s n t) : Footprint s t := by
  induction h with
  | refl => exact ⟨rfl, List.prefix_refl _, List.suffix_refl _⟩
  | registers _ a x y sp pc p ih =>
    obtain ⟨hframe, hbus, hdma⟩ := ih
    exact ⟨by rw [hframe], hbus, hdma⟩
  | @write n t _ place ml addr v ih =>
    obtain ⟨hframe, hbus, hdma⟩ := ih
    refine ⟨by rw [hframe]; rfl, hbus.trans ?_, List.IsSuffix.trans ?_ hdma⟩
    · exact List.prefix_append _ _
    · exact List.dropWhile_suffix _

theorem Effect.mem_wf (h : Effect s n t) (hs : Memory.wf s.mem) : Memory.wf t.mem := by
  induction h with
  | refl => exact hs
  | registers _ _ _ _ _ _ _ ih => exact ih
  | write _ place ml addr v ih => exact State.wf_writeAt place ml addr v ih

/-- The record of the step grows by `n` writes, none of them an op-code fetch. -/
theorem Effect.bus (h : Effect s n t) :
    ∃ made, t.bus = s.bus ++ made ∧ made.length = n ∧ ∀ access ∈ made, access.write = true ∧ access.sync = false := by
  induction h with
  | refl => exact ⟨[], (List.append_nil _).symm, rfl, nofun⟩
  | registers _ _ _ _ _ _ _ ih => exact ih
  | write _ place ml addr v ih =>
    obtain ⟨made, hbus, hlen, hmade⟩ := ih
    refine ⟨made ++ [_], by rw [State.writeAt_bus, hbus, List.append_assoc], by rw [List.length_append, hlen]; rfl, ?_⟩
    intro access haccess
    rcases List.mem_append.1 haccess with h | h
    · exact hmade access h
    · rw [List.mem_singleton.1 h]; exact ⟨rfl, rfl⟩

end Operations

/-! The shared meanings -/

section Meanings

variable {s u : State} (m v : Byte) (ea target : Word) (len : Nat)

theorem lda_answers (h : Effect s 0 u) : Answers s 0 (lda m len u) := ⟨_, rfl, h.registers ..⟩

theorem ldx_answers (h : Effect s 0 u) : Answers s 0 (ldx m len u) := ⟨_, rfl, h.registers ..⟩

theorem ldy_answers (h : Effect s 0 u) : Answers s 0 (ldy m len u) := ⟨_, rfl, h.registers ..⟩

theorem setP_answers (p : Flags) (h : Effect s 0 u) : Answers s 0 (setP p u) := ⟨_, rfl, h.registers ..⟩

theorem store_answers (s : State) : Answers s 1 (store v ea len s) := ⟨_, rfl, (Effect.refl.write ..).advance _⟩

theorem txs_answers (s : State) : Answers s 0 (txs v s) := ⟨_, rfl, Effect.refl.registers ..⟩

theorem adc_answers (s : State) : Answers s 0 (adc m len s) := by
  unfold adc
  split
  · exact ⟨_, rfl, Effect.refl.registers ..⟩
  · exact ⟨_, rfl, Effect.refl.registers ..⟩

theorem sbc_answers (s : State) : Answers s 0 (sbc m len s) := by
  unfold sbc
  split
  · exact ⟨_, rfl, Effect.refl.registers ..⟩
  · exact ⟨_, rfl, Effect.refl.registers ..⟩

theorem compare_answers (r : Byte) (s : State) : Answers s 0 (compare r m len s) := ⟨_, rfl, Effect.refl.registers ..⟩

/-- The write of a read-modify-write, with the flags it sets and `pc` past it. -/
theorem Effect.writeBack (s : State) (ml : Bool) (p : Flags) :
    Effect s 1 { (s.writeBack ml ea v).advance len with p := p } :=
  (Effect.refl.write writeBackPlace ml ea v).registers ..

theorem countMem_answers (f : Byte → Byte) (s : State) : Answers s 1 (countMem f ea len s) :=
  ⟨_, rfl, Effect.writeBack ..⟩

theorem testMem_answers (f : Byte → Byte) (s : State) : Answers s 1 (testMem f ea len s) :=
  ⟨_, rfl, Effect.writeBack ..⟩

theorem shiftMem_answers (f : Byte → Shifted) (s : State) : Answers s 1 (shiftMem f ea len s) :=
  ⟨_, rfl, Effect.writeBack ..⟩

theorem changeBits_answers (f : Byte → Byte) (zp : Byte) (s : State) : Answers s 1 (changeBits f zp s) :=
  ⟨_, rfl, (Effect.refl.write ..).advance _⟩

theorem resetBit_answers (k : Nat) (zp : Byte) (s : State) : Answers s 1 (resetBit k zp s) := changeBits_answers ..

theorem setBit_answers (k : Nat) (zp : Byte) (s : State) : Answers s 1 (setBit k zp s) := changeBits_answers ..

theorem shiftAcc_answers (f : Byte → Shifted) (s : State) : Answers s 0 (shiftAcc f s) :=
  ⟨_, rfl, Effect.refl.registers ..⟩

theorem bitMem_answers (s : State) : Answers s 0 (bitMem m len s) := ⟨_, rfl, Effect.refl.registers ..⟩

theorem bitImm_answers (s : State) : Answers s 0 (bitImm m len s) := ⟨_, rfl, Effect.refl.registers ..⟩

theorem branch_answers (cond : State → Bool) (rel : Byte) (s : State) : Answers s 0 (branch cond len rel s) := by
  refine ⟨_, rfl, ?_⟩
  split
  · exact Effect.refl.registers ..
  · exact Effect.refl.advance len

theorem jump_answers (s : State) : Answers s 0 (jump target s) := ⟨_, rfl, Effect.refl.registers ..⟩

theorem callSubroutine_answers (s : State) : Answers s 2 (callSubroutine target s) :=
  ⟨_, rfl, (Effect.refl.pushWord _).registers ..⟩

theorem returnFromSubroutine_answers (s : State) : Answers s 0 (returnFromSubroutine s) :=
  ⟨_, rfl, Effect.refl.registers ..⟩

theorem pushByte_answers (s : State) : Answers s 1 (pushByte v s) := ⟨_, rfl, (Effect.refl.push ..).advance _⟩

theorem breakEntry_answers (s : State) : Answers s 3 (breakEntry s) := ⟨_, rfl, Effect.enterInterrupt ..⟩

theorem interruptReturn_answers (s : State) : Answers s 0 (interruptReturn s) := ⟨_, rfl, Effect.refl.registers ..⟩

theorem reserved_answers (op : Byte) (s : State) : Answers s 0 (reserved op s) := ⟨_, rfl, Effect.refl.advance _⟩

end Meanings

/-- Every instruction answers a next state, with the writes of its cell of the op-code map made and nothing else but
registers, flags and `pc` changed. -/
theorem exec_answers (i : Instr) (s : State) : Answers s (info i).data.writes (exec i s) := by
  cases i
  case brk => exact breakEntry_answers _
  case oraIndX | oraZp | oraImm | oraAbs | oraIndY | oraInd | oraZpX | oraAbsY | incAcc | oraAbsX | andIndX |
      andZp | andImm | andAbs | andIndY | andInd | andZpX | andAbsY | decAcc | andAbsX | eorIndX | eorZp |
      eorImm | eorAbs | eorIndY | eorInd | eorZpX | eorAbsY | eorAbsX | txa | tya | ldaIndX | ldaZp | ldaImm |
      ldaAbs | ldaIndY | ldaInd | ldaZpX | ldaAbsY | ldaAbsX =>
    exact lda_answers _ _ .refl
  case rsv02 | rsv03 | rsv0B | rsv13 | rsv1B | rsv22 | rsv23 | rsv2B | rsv33 | rsv3B | rsv42 | rsv43 | rsv44 |
      rsv4B | rsv53 | rsv54 | rsv5B | rsv5C | rsv62 | rsv63 | rsv6B | rsv73 | rsv7B | rsv82 | rsv83 | rsv8B |
      rsv93 | rsv9B | rsvA3 | rsvAB | rsvB3 | rsvBB | rsvC2 | rsvC3 | rsvCB | rsvD3 | rsvD4 | rsvDB | rsvDC |
      rsvE2 | rsvE3 | rsvEB | rsvF3 | rsvF4 | rsvFB | rsvFC =>
    exact reserved_answers _ _
  case tsbZp | tsbAbs => exact testMem_answers _ _ (fun m => m ||| s.a) _
  case trbZp | trbAbs => exact testMem_answers _ _ (fun m => m &&& ~~~s.a) _
  case aslZp | aslAbs | aslZpX | aslAbsX | rolZp | rolAbs | rolZpX | rolAbsX | lsrZp | lsrAbs | lsrZpX |
      lsrAbsX | rorZp | rorAbs | rorZpX | rorAbsX =>
    exact shiftMem_answers _ _ _ _
  case rmb0 | rmb1 | rmb2 | rmb3 | rmb4 | rmb5 | rmb6 | rmb7 => exact resetBit_answers _ _ _
  case smb0 | smb1 | smb2 | smb3 | smb4 | smb5 | smb6 | smb7 => exact setBit_answers _ _ _
  case php | pha | phy | phx =>
    exact pushByte_answers _ _
  case aslAcc | rolAcc | lsrAcc | rorAcc =>
    exact shiftAcc_answers _ _
  case bbr0 | bpl | bbr1 | bbr2 | bmi | bbr3 | bbr4 | bvc | bbr5 | bbr6 | bvs | bbr7 | bra | bbs0 | bcc |
      bbs1 | bbs2 | bcs | bbs3 | bbs4 | bne | bbs5 | bbs6 | beq | bbs7 =>
    exact branch_answers _ _ _ _
  case clc | sec | cli | sei | clv | cld | nop | sed =>
    exact setP_answers _ .refl
  case jsr => exact callSubroutine_answers _ _
  case bitZp | bitAbs | bitZpX | bitAbsX =>
    exact bitMem_answers _ _ _
  case plp => exact setP_answers _ (.pull _)
  case rti => exact interruptReturn_answers _
  case jmpAbs | jmpInd | jmpIndX =>
    exact jump_answers _ _
  case rts => exact returnFromSubroutine_answers _
  case adcIndX | adcZp | adcImm | adcAbs | adcIndY | adcInd | adcZpX | adcAbsY | adcAbsX =>
    exact adc_answers _ _ _
  case stzZp | stzZpX | staIndX | styZp | staZp | stxZp | styAbs | staAbs | stxAbs | staIndY | staInd |
      styZpX | staZpX | stxZpY | staAbsY | stzAbs | staAbsX | stzAbsX =>
    exact store_answers _ _ _ _
  case pla => exact lda_answers _ _ (.pull _)
  case ply => exact ldy_answers _ _ (.pull _)
  case dey | ldyImm | ldyZp | tay | ldyAbs | ldyZpX | ldyAbsX | iny =>
    exact ldy_answers _ _ .refl
  case bitImm => exact bitImm_answers _ _ _
  case txs => exact txs_answers _ _
  case ldxImm | ldxZp | tax | ldxAbs | ldxZpY | tsx | ldxAbsY | dex | inx =>
    exact ldx_answers _ _ .refl
  case cpyImm | cmpIndX | cpyZp | cmpZp | cmpImm | cpyAbs | cmpAbs | cmpIndY | cmpInd | cmpZpX | cmpAbsY |
      cmpAbsX | cpxImm | cpxZp | cpxAbs =>
    exact compare_answers _ _ _ _
  case decZp | decAbs | decZpX | decAbsX | incZp | incAbs | incZpX | incAbsX =>
    exact countMem_answers _ _ _ _
  case sbcIndX | sbcZp | sbcImm | sbcAbs | sbcIndY | sbcInd | sbcZpX | sbcAbsY | sbcAbsX =>
    exact sbc_answers _ _ _
  case plx => exact ldx_answers _ _ (.pull _)

/-- What an instruction has done, once it has answered. -/
theorem exec_effect {i : Instr} {s t : State} (h : exec i s = .next t) : Effect s (info i).data.writes t := by
  obtain ⟨u, hu, heffect⟩ := exec_answers i s
  obtain rfl : u = t := by injection hu.symm.trans h
  exact heffect

end Sys2Proof.Machine

/-! PROOFS. The invariant through the parts of a step: the boundary's pin events, what the CPU does, and the edges that
fall within it. Within a step another bus master may be at work, so that the parts keep the invariant but for its last
clause, and the end of the step restores that one. -/

namespace Sys2Proof.Machine

/-- The invariant within a step, where other bus masters may still have writes to make. -/
structure State.InvWithin (s : State) : Prop where
  mem_wf : Memory.wf s.mem
  held_low : s.resHeld = true → s.pins.res = false
  pending_high : s.resPending = true → s.pins.res = true
  shadow_unmasked : s.irqShadow = true → s.p.i = false
  tcu_le_cycles : s.stateLost = false → s.tcu ≤ s.cycles

variable {s t : State}

theorem State.Inv.toWithin (h : s.Inv) : s.InvWithin :=
  ⟨h.mem_wf, h.held_low, h.pending_high, h.shadow_unmasked, h.tcu_le_cycles⟩

/-! The boundary -/

theorem State.InvWithin.begin (h : s.InvWithin) : s.begin.InvWithin :=
  ⟨h.mem_wf, h.held_low, h.pending_high, h.shadow_unmasked, h.tcu_le_cycles⟩

/-- RES goes to a level: the pulse is measured from its start, and pends once it is over (R350). -/
theorem State.InvWithin.onRes {high : Bool} (h : s.InvWithin) (ht : s.onPin (.res high) = .ok t) : t.InvWithin := by
  simp only [State.onPin, Pins.set] at ht
  split at ht
  · injection ht with ht; subst ht; exact h
  · split at ht
    · injection ht with ht; subst ht
      exact ⟨h.mem_wf, nofun, nofun, h.shadow_unmasked, h.tcu_le_cycles⟩
    · next hhigh =>
      split at ht
      · injection ht with ht; subst ht
        exact ⟨h.mem_wf, nofun, fun _ => by simpa using hhigh, h.shadow_unmasked, h.tcu_le_cycles⟩
      · cases ht

theorem State.InvWithin.onPin {e : PinEvent} (h : s.InvWithin) (ht : s.onPin e = .ok t) : t.InvWithin := by
  cases e with
  | res high => exact h.onRes ht
  | irq high | nmi high | so high | rdy high =>
    injection ht with ht; subst ht
    exact ⟨h.mem_wf, h.held_low, h.pending_high, h.shadow_unmasked, h.tcu_le_cycles⟩
  | be high =>
    injection ht with ht; subst ht
    split
    · exact ⟨h.mem_wf, h.held_low, h.pending_high, h.shadow_unmasked, h.tcu_le_cycles⟩
    · exact h
  | clock c =>
    injection ht with ht; subst ht
    split
    · exact ⟨h.mem_wf, nofun, nofun, nofun, nofun⟩
    · exact ⟨h.mem_wf, h.held_low, h.pending_high, h.shadow_unmasked, h.tcu_le_cycles⟩
  | busWrite addr v =>
    injection ht with ht; subst ht
    exact ⟨Memory.wf_store _ _ _ h.mem_wf, h.held_low, h.pending_high, h.shadow_unmasked, h.tcu_le_cycles⟩

theorem State.InvWithin.onPins {events : List PinEvent} (h : s.InvWithin) (ht : s.onPins events = .ok t) :
    t.InvWithin := by
  induction events generalizing s with
  | nil => injection ht with ht; subst ht; exact h
  | cons e rest ih =>
    rw [State.onPins] at ht
    split at ht
    · next u hu => exact ih (h.onPin hu) ht
    · cases ht

/-! What the CPU does -/

/-- The CPU is held only by RES (R350). -/
theorem State.res_low_of_held {b : Boundary} (h : s.activity b = .held) : s.pins.res = false := by
  cases hres : s.pins.res with
  | false => rfl
  | true =>
    simp only [State.activity, hres, Bool.not_true, Bool.false_eq_true, if_false] at h
    split_ifs at h

theorem State.InvWithin.resetSequence (h : s.InvWithin) : s.resetSequence.InvWithin :=
  ⟨h.mem_wf, nofun, nofun, nofun, fun _ => Nat.le_add_left ..⟩

/-- The marks of a RES pulse and the canonical form of memory, after what an instruction or an interrupt entry does. -/
theorem State.InvWithin.effect {n : Nat} (h : s.InvWithin) (he : Effect s n t) :
    Memory.wf t.mem ∧ (t.resHeld = true → t.pins.res = false) ∧ (t.resPending = true → t.pins.res = true) := by
  obtain ⟨hframe, -, -⟩ := he.footprint
  refine ⟨he.mem_wf h.mem_wf, ?_, ?_⟩
  · rw [hframe]; exact h.held_low
  · rw [hframe]; exact h.pending_high

theorem State.InvWithin.takeInterrupt (h : s.InvWithin) (vector : Word) : (s.takeInterrupt vector).InvWithin := by
  obtain ⟨hmem, hheld, hpending⟩ := h.effect (Effect.enterInterrupt s vector false s.pc)
  rw [State.takeInterrupt_eq]
  exact ⟨hmem, hheld, hpending, nofun, fun _ => Nat.le_add_left ..⟩

theorem State.InvWithin.takeIrq (h : s.InvWithin) : s.takeIrq.InvWithin := h.takeInterrupt irqVector

theorem State.InvWithin.takeNmi (h : s.InvWithin) : s.takeNmi.InvWithin := by
  have hclear : ({ s with nmiPending := false } : State).InvWithin :=
    ⟨h.mem_wf, h.held_low, h.pending_high, h.shadow_unmasked, h.tcu_le_cycles⟩
  exact hclear.takeInterrupt nmiVector

/-- An instruction and what is recorded of it: the deferral mark is set only where I has become 0 (R304 (d)). -/
theorem State.InvWithin.record {i : Instr} (h : s.InvWithin) (ht : exec i s = .next t) :
    (State.record i s t).InvWithin := by
  obtain ⟨hmem, hheld, hpending⟩ := h.effect (exec_effect ht)
  refine ⟨hmem, hheld, hpending, fun hshadow => ?_, fun _ => Nat.le_add_left ..⟩
  simp only [State.record, Bool.and_eq_true, Bool.not_eq_true'] at hshadow
  exact hshadow.2

/-! The end of the step -/

/-- The end of a step: the other bus masters' writes are all made (R77). -/
theorem State.InvWithin.finish (h : s.InvWithin) : s.finish.Inv :=
  ⟨State.wf_upTo endPlace h.mem_wf, h.held_low, h.pending_high, h.shadow_unmasked, h.tcu_le_cycles,
    State.upTo_end_dma s⟩

theorem State.InvWithin.holdReset (h : s.InvWithin) (hres : s.pins.res = false) : s.holdReset.Inv :=
  ⟨State.wf_upTo endPlace h.mem_wf, fun _ => hres, h.pending_high, h.shadow_unmasked, h.tcu_le_cycles,
    State.upTo_end_dma s⟩

/-- SO changes its level and V, of which the invariant does not speak (R315). -/
theorem State.Inv.soFalls (writesV : Bool) (h : s.Inv) : (s.soFalls writesV).Inv := by
  unfold State.soFalls
  split
  · exact h
  · exact ⟨h.mem_wf, h.held_low, h.pending_high, h.shadow_unmasked, h.tcu_le_cycles, h.dma_done⟩

/-- RES cuts the step short: nothing of a pulse or a deferral is marked yet, and the cycles still taken are counted
(R350). -/
theorem State.Inv.resFalls (hs : Memory.wf s.mem) (ht : t.Inv) : (State.resFalls s t).Inv :=
  ⟨Memory.wf_scramble _ _ _ (State.wf_upTo endPlace hs), nofun, nofun, nofun, fun _ => Nat.le_add_left .., ht.dma_done⟩

theorem State.InvWithin.within (b : Boundary) (writesV : Bool) (hs : Memory.wf s.mem) (ht : t.InvWithin) :
    (State.within b writesV s t).Inv := by
  have hso : (if b.soWithin then t.finish.soFalls writesV else t.finish).Inv := by
    split
    · exact ht.finish.soFalls writesV
    · exact ht.finish
  dsimp only [State.within]
  generalize (if b.soWithin then t.finish.soFalls writesV else t.finish) = u at hso ⊢
  split
  · exact hso.resFalls hs
  · exact hso

/-- Whatever the CPU does at a boundary leaves the invariant. -/
theorem State.InvWithin.proceed {b : Boundary} (h : s.InvWithin) (ht : s.proceed b = .next t) : t.Inv := by
  unfold State.proceed at ht
  split at ht
  case h_1 hheld => injection ht with ht; subst ht; exact h.holdReset (State.res_low_of_held hheld)
  case h_2 => injection ht with ht; subst ht; exact h.finish
  case h_3 => cases ht
  case h_4 => injection ht with ht; subst ht; exact h.resetSequence.within b true h.mem_wf
  case h_5 => injection ht with ht; subst ht; exact h.takeNmi.within b false h.mem_wf
  case h_6 => injection ht with ht; subst ht; exact h.takeIrq.within b false h.mem_wf
  case h_7 =>
    split at ht
    · next u hu => injection ht with ht; subst ht; exact (h.record hu).within b _ h.mem_wf
    · cases ht
    · cases ht

theorem State.Inv.step (h : s.Inv) (ht : step s = .next t) : t.Inv := by
  unfold Machine.step at ht
  split at ht
  · cases ht
  · next u hu => exact (h.toWithin.begin.onPins hu).proceed ht

end Sys2Proof.Machine

namespace Sys2Proof.Claims

open Sys2Proof.Machine

/-- Settles O60: an instruction's effect is registers, flags, `pc` and writes, which leave the environment alone. -/
theorem execFootprint : Obligations.ExecFootprint := by
  intro i s t h
  exact (exec_effect h).footprint

/-- Settles O7, by the parts of a step. -/
theorem invKept : Obligations.InvKept := by
  intro s t h ht
  exact h.step ht

end Sys2Proof.Claims

/-! PROOFS. Which activity a boundary has: an instruction where nothing holds the CPU and nothing is due, the reset
sequence where a reset is due. Then what those steps answer. -/

namespace Sys2Proof.Machine

open Sys2Proof.Claims

variable {s t : State}

/-- Nothing holds the CPU, and no reset or interrupt is due: it performs an instruction (R102, R302, R303). -/
theorem State.activity_of_ready (hr : Ready s) (hn : NoInterrupt s) (b : Boundary) : s.activity b = .execute := by
  have hirq : s.irqRecognized b = false := by
    rcases hn.no_irq with h | h <;> simp [State.irqRecognized, h]
  simp [State.activity, hr.res_high, hr.clock_runs, hr.rdy_high, hr.be_high, hr.no_reset, hr.state_kept, hn.no_nmi,
    hirq]

/-- A reset that is due goes before everything but what holds the CPU (R10, R309). -/
theorem State.activity_of_resPending (hres : s.pins.res = true) (hclock : s.pins.clock = .running)
    (hrdy : s.pins.rdy = true) (hbe : s.pins.be = true) (hpending : s.resPending = true) (b : Boundary) :
    s.activity b = .reset := by
  simp [State.activity, hres, hclock, hrdy, hbe, hpending]

/-- Where an instruction is performed, the CPU completes it. -/
theorem State.proceed_of_execute {b : Boundary} (ha : s.activity b = .execute) (ht : exec s.fetch s = .next t) :
    s.proceed b = .next (State.complete b s.fetch s t) := by
  rw [State.proceed, ha]
  simp only [ht]

/-- With no edge within the step, completing an instruction is recording it and letting the other bus masters end. -/
theorem State.complete_of_noPinEvent {b : Boundary} (hb : NoPinEvent b) (i : Instr) (s t : State) :
    State.complete b i s t = (State.record i s t).finish := by
  simp [State.complete, State.within, hb.no_so, hb.no_res]

/-- A boundary without pin events only begins a step. -/
theorem State.atBoundary_of_noPinEvent (hb : NoPinEvent s.boundary) : s.atBoundary = .ok s.begin := by
  rw [State.atBoundary, hb.events_nil]; rfl

theorem Boundary.quiet_noPinEvent : NoPinEvent Boundary.quiet := ⟨rfl, rfl, rfl⟩

/-- Beginning a step touches nothing that could hold the CPU. -/
theorem State.begin_ready (hr : Ready s) : Ready s.begin :=
  ⟨hr.res_high, hr.clock_runs, hr.rdy_high, hr.be_high, hr.no_reset, hr.state_kept⟩

theorem State.begin_noInterrupt (hn : NoInterrupt s) : NoInterrupt s.begin := ⟨hn.no_nmi, hn.no_irq⟩

/-- A step in which the environment leaves the CPU alone performs the instruction fetched. -/
theorem step_of_ready (hr : Ready s) (hb : NoPinEvent s.boundary) (hn : NoInterrupt s)
    (ht : exec s.begin.fetch s.begin = .next t) :
    step s = .next (State.record s.begin.fetch s.begin t).finish := by
  have ha : s.begin.activity s.boundary = .execute :=
    State.activity_of_ready (State.begin_ready hr) (State.begin_noInterrupt hn) _
  rw [step, State.atBoundary_of_noPinEvent hb]
  dsimp only
  rw [State.proceed_of_execute ha ht, State.complete_of_noPinEvent hb]

/-! A machine left alone -/

theorem State.Quiet.ready (h : s.Quiet) : Ready s := by
  obtain ⟨-, hpins, -, hreset, hkept⟩ := h
  exact ⟨by rw [hpins]; rfl, by rw [hpins]; rfl, by rw [hpins]; rfl, by rw [hpins]; rfl, hreset, hkept⟩

theorem State.Quiet.noInterrupt (h : s.Quiet) : NoInterrupt s := ⟨h.no_nmi, .inl (by rw [h.pins_inactive]; rfl)⟩

theorem State.Quiet.noPinEvent (h : s.Quiet) : NoPinEvent s.boundary := by
  rw [State.boundary, h.schedule_nil]; exact Boundary.quiet_noPinEvent

theorem State.Quiet.begin (h : s.Quiet) : s.begin.Quiet :=
  ⟨by rw [State.begin_of_nil h.schedule_nil]; exact h.schedule_nil, h.pins_inactive, h.no_nmi, h.no_reset, h.state_kept⟩

/-- What an instruction leaves unchanged keeps a quiet machine quiet. -/
theorem State.Quiet.footprint (h : s.Quiet) (ht : Footprint s t) : t.Quiet := by
  obtain ⟨hframe, -, -⟩ := ht
  rw [hframe]
  exact ⟨h.schedule_nil, h.pins_inactive, h.no_nmi, h.no_reset, h.state_kept⟩

theorem State.Quiet.recorded (h : s.Quiet) (i : Instr) (u : State) : (State.record i u s).finish.Quiet :=
  ⟨h.schedule_nil, h.pins_inactive, h.no_nmi, h.no_reset, h.state_kept⟩

/-- Progress and preservation: a quiet machine takes a step, is quiet again, and time has gone on by the cycles of the
instruction fetched. -/
theorem State.Quiet.step (h : s.Quiet) :
    ∃ t, step s = .next t ∧ t.Quiet ∧ t.cycles = s.cycles + cyclesOf s.begin.fetch s.begin := by
  obtain ⟨t, ht, heffect⟩ := exec_answers s.begin.fetch s.begin
  refine ⟨_, step_of_ready h.ready h.noPinEvent h.noInterrupt ht, ?_, rfl⟩
  exact (h.begin.footprint heffect.footprint).recorded _ _

/-- A run goes on from the state its first step answers. -/
theorem core_run_succ (h : Machine.step s = .next t) (k : Nat) :
    Host.Core.run Sys2Proof.core (k + 1) s = Host.Core.run Sys2Proof.core k t := by
  have hcore : Sys2Proof.core.step s = .next t := h
  have hrun := Host.Core.run.eq_2 Sys2Proof.core s k
  rw [hcore] at hrun
  exact hrun

/-- So it does any number of steps. -/
theorem State.Quiet.run (h : s.Quiet) (k : Nat) :
    ∃ t, Host.Core.run Sys2Proof.core k s = .next t ∧ t.Quiet ∧ s.cycles ≤ t.cycles := by
  induction k generalizing s with
  | zero => exact ⟨s, rfl, h, Nat.le_refl _⟩
  | succ k ih =>
    obtain ⟨u, hu, hquiet, hcycles⟩ := h.step
    obtain ⟨t, ht, hquiet', hle⟩ := ih hquiet
    exact ⟨t, (core_run_succ hu k).trans ht, hquiet', by omega⟩

/-! The op code fetched -/

/-- The op code of what a byte decodes to is that byte, whatever the bytes after it: the row and the column of the map
give back its two digits (R101, R121). -/
theorem opcode_decodeOp (op b1 b2 : Byte) : opcode (decodeOp op b1 b2) = op := by
  have hoperands : opcode (decodeOp op b1 b2) = opcode (decodeOp op 0 0) := by
    dsimp only [decodeOp]
    split
    case h_1 => unfold decodeRow0; split <;> rfl
    case h_2 => unfold decodeRow1; split <;> rfl
    case h_3 => unfold decodeRow2; split <;> rfl
    case h_4 => unfold decodeRow3; split <;> rfl
    case h_5 => unfold decodeRow4; split <;> rfl
    case h_6 => unfold decodeRow5; split <;> rfl
    case h_7 => unfold decodeRow6; split <;> rfl
    case h_8 => unfold decodeRow7; split <;> rfl
    case h_9 => unfold decodeRow8; split <;> rfl
    case h_10 => unfold decodeRow9; split <;> rfl
    case h_11 => unfold decodeRowA; split <;> rfl
    case h_12 => unfold decodeRowB; split <;> rfl
    case h_13 => unfold decodeRowC; split <;> rfl
    case h_14 => unfold decodeRowD; split <;> rfl
    case h_15 => unfold decodeRowE; split <;> rfl
    case h_16 => unfold decodeRowF; split <;> rfl
  have hmap : ∀ op : Byte, opcode (decodeOp op 0 0) = op := by decide
  rw [hoperands, hmap]

/-- What decodes from an op code and the bytes after it is what the decoder's table gives. -/
theorem decode_cons_ok {op b1 b2 : Byte} {i : Instr} {rest : List Byte} (h : decode [op, b1, b2] = .ok (i, rest)) :
    decodeOp op b1 b2 = i := by
  rw [decode] at h
  split at h
  · cases h
  · injection h with h
    exact congrArg Prod.fst h

/-! The reset sequence -/

/-- A step that performs the reset sequence, with nothing scheduled. -/
theorem step_of_resPending (hnil : s.schedule = []) (hres : s.pins.res = true) (hclock : s.pins.clock = .running)
    (hrdy : s.pins.rdy = true) (hbe : s.pins.be = true) (hpending : s.resPending = true) :
    step s = .next s.begin.resetSequence := by
  have ha : s.begin.activity Boundary.quiet = .reset :=
    State.activity_of_resPending (s := s.begin) hres hclock hrdy hbe hpending _
  have hdma : s.begin.resetSequence.dma = [] := by rw [State.begin_of_nil hnil]; rfl
  rw [step_of_nil hnil, State.proceed, ha]
  dsimp only
  rw [State.within_quiet, State.finish_of_nil hdma]

end Sys2Proof.Machine

namespace Sys2Proof.Claims

open Sys2Proof.Machine

/-- Settles O52: progress and preservation of `State.Quiet`, by induction on the number of steps. -/
theorem quietRuns : Obligations.QuietRuns := by
  refine ⟨fun s h => ?_, fun s h k => h.run k⟩
  obtain ⟨t, ht, hquiet, hcycles⟩ := h.step
  exact ⟨t, ht, hquiet, by omega, hcycles⟩

/-- Settles O47: the step is the reset sequence, and the vector it read is still there after it. -/
theorem resetTaken : Obligations.ResetTaken := by
  intro s hnil hres hclock hrdy hbe hpending
  refine ⟨_, step_of_resPending hnil hres hclock hrdy hbe hpending, fun _ => rfl, ?_⟩
  rw [State.begin_of_nil hnil]
  rfl

/-- Settles O6. -/
theorem stepRunsInstruction : Obligations.StepRunsInstruction := by
  intro s t i rest hready hb hn u hdecode hexec
  have hfetch : s.begin.fetch = i := decode_cons_ok hdecode
  have hop : opcode i = u.readAt fetchPlace s.pc := by rw [← hfetch]; exact opcode_decodeOp ..
  rw [step_of_ready hready hb hn (t := t) (by rw [hfetch]; exact hexec), hfetch, ← hop]
  rfl

end Sys2Proof.Claims

/-! PROOFS. What stands at an address, and the loads. -/

namespace Sys2Proof.Machine

variable {s : State} {addr : Word}

/-- A read of ROM (R62). -/
theorem State.readAt_rom (h : kindAt s.platform addr = .rom) (place : Nat) :
    s.readAt place addr = (s.upTo place).read addr := by
  simp only [State.readAt, State.supplied, State.upTo_platform, h]

/-- A read of what holds no byte of memory is the free value of this draw, place and address (R62, D1, D21). -/
theorem State.readAt_free (h : kindAt s.platform addr = .device ∨ kindAt s.platform addr = .nothing) (place : Nat) :
    s.readAt place addr = Config.platformByte s.draws place addr := by
  rcases h with h | h <;> simp only [State.readAt, State.supplied, State.upTo_platform, State.upTo_draws, h]

/-- What is not RAM takes no byte (R62). -/
theorem State.writeAt_mem_of_not_ram (h : kindAt s.platform addr ≠ .ram) (place : Nat) (ml : Bool) (v : Byte) :
    (s.writeAt place ml addr v).mem = (s.upTo place).mem := by
  rw [State.writeAt_mem, Memory.store, if_neg h]

/-- `SetNZ` of the meanings and of the statements (R9). -/
theorem Flags.setNZ_eq_nz (p : Flags) (v : Byte) : p.setNZ v = Claims.nz p v := by
  have hz : (v == 0) = decide (v = 0) := rfl
  rw [Flags.setNZ_eq, Claims.nz, hz, BitVec.msb_eq_getLsbD_last]

/-- `pc` past an instruction, as the statements have it (R28). -/
theorem pc_add_eq_pcAfter (s : State) (len : Nat) : s.pc + BitVec.ofNat 16 len = Claims.pcAfter s len := by
  apply BitVec.eq_of_toNat_eq
  simp [Claims.pcAfter]

theorem lda_eq (m : Byte) (len : Nat) (s : State) :
    lda m len s = .next { s with a := m, p := Claims.nz s.p m, pc := Claims.pcAfter s len } := by
  rw [lda, Flags.setNZ_eq_nz, State.advance, pc_add_eq_pcAfter]

theorem ldx_eq (m : Byte) (len : Nat) (s : State) :
    ldx m len s = .next { s with x := m, p := Claims.nz s.p m, pc := Claims.pcAfter s len } := by
  rw [ldx, Flags.setNZ_eq_nz, State.advance, pc_add_eq_pcAfter]

theorem ldy_eq (m : Byte) (len : Nat) (s : State) :
    ldy m len s = .next { s with y := m, p := Claims.nz s.p m, pc := Claims.pcAfter s len } := by
  rw [ldy, Flags.setNZ_eq_nz, State.advance, pc_add_eq_pcAfter]

end Sys2Proof.Machine

namespace Sys2Proof.Claims

open Sys2Proof.Machine

/-- Each form of LDA is `lda` of its operand. -/
theorem exec_ldaForms {s : State} {b : Byte} {w : Word} {f : ReadForm} (hf : f ∈ ldaForms s b w) :
    exec f.instr s = lda f.operand f.length s := by
  simp only [ldaForms, nineForms, List.mem_cons, List.not_mem_nil, or_false] at hf
  rcases hf with rfl | rfl | rfl | rfl | rfl | rfl | rfl | rfl | rfl <;> rfl

/-- Each form of LDX is `ldx` of its operand. -/
theorem exec_ldxForms {s : State} {b : Byte} {w : Word} {f : ReadForm} (hf : f ∈ ldxForms s b w) :
    exec f.instr s = ldx f.operand f.length s := by
  simp only [ldxForms, List.mem_cons, List.not_mem_nil, or_false] at hf
  rcases hf with rfl | rfl | rfl | rfl | rfl <;> rfl

/-- Each form of LDY is `ldy` of its operand. -/
theorem exec_ldyForms {s : State} {b : Byte} {w : Word} {f : ReadForm} (hf : f ∈ ldyForms s b w) :
    exec f.instr s = ldy f.operand f.length s := by
  simp only [ldyForms, List.mem_cons, List.not_mem_nil, or_false] at hf
  rcases hf with rfl | rfl | rfl | rfl | rfl <;> rfl

/-- Settles O53; the free value of a device or of nothing is `Config.platformByte`. -/
theorem platformAccess : Obligations.PlatformAccess := by
  intro s place addr ml v
  refine ⟨?_, ⟨Config.platformByte, fun t place' addr' h => State.readAt_free h place'⟩, fun h => ?_,
    fun h => State.writeAt_mem_of_not_ram h place ml v, rfl, fun r rest => rfl, rfl⟩
  · rintro (h | h)
    · exact State.readAt_ram h place
    · exact State.readAt_rom h place
  · rw [State.read_writeAt, if_pos ⟨rfl, h⟩]

/-- Settles O10. -/
theorem loadResult : Obligations.LoadResult := by
  intro s b w
  refine ⟨fun f hf => ?_, fun f hf => ?_, fun f hf => ?_⟩
  · rw [exec_ldaForms hf, lda_eq]
  · rw [exec_ldxForms hf, ldx_eq]
  · rw [exec_ldyForms hf, ldy_eq]

end Sys2Proof.Claims

/-! PROOFS. The bus record of an instruction: what the parts of the listed accesses are, and that there are no more of
them than the instruction has cycles (R61, R360). -/

namespace Sys2Proof.Machine

variable {i : Instr} {s t : State} {dummyReads : Bool}

/-! The fetches -/

/-- The read of the op code, the one access with SYNC (R316). -/
def State.opcodeFetch (s : State) : BusAccess := { s.readAccess fetchPlace s.pc with sync := true }

/-- The reads of the operand bytes. -/
def operandFetches (i : Instr) (s : State) : List BusAccess :=
  (List.range (operandBytes i).length).map fun k => s.readAccess (fetchPlace + (k + 1)) (s.pc + BitVec.ofNat 16 (k + 1))

theorem fetchAccesses_eq (i : Instr) (s : State) : fetchAccesses i s = s.opcodeFetch :: operandFetches i s := by
  have hpc : s.pc + BitVec.ofNat 16 0 = s.pc := by bv_omega
  simp [fetchAccesses, encode, List.range_succ_eq_map, operandFetches, State.opcodeFetch, State.readAccess, hpc]

theorem fetchAccesses_addrs (i : Instr) (s : State) :
    (fetchAccesses i s).map (fun access => access.addr) =
      (List.range (encode i).length).map fun k => s.pc + BitVec.ofNat 16 k := by
  rw [fetchAccesses, List.map_map]; rfl

theorem fetchAccesses_length (i : Instr) (s : State) : (fetchAccesses i s).length = (encode i).length := by
  rw [fetchAccesses, List.length_map, List.length_range]

/-! Reads without a label -/

/-- A read with neither SYNC nor ML (R61). -/
def BusAccess.PlainRead (access : BusAccess) : Prop :=
  access.write = false ∧ access.sync = false ∧ access.ml = false

theorem State.readAccess_plain (s : State) (place : Nat) (addr : Word) : (s.readAccess place addr).PlainRead :=
  ⟨rfl, rfl, rfl⟩

theorem State.discardedAccess_plain (s : State) (avoid : Option Word) (k moment : Nat) (before : List BusAccess) :
    (s.discardedAccess avoid k moment before).PlainRead := ⟨rfl, rfl, rfl⟩

/-- The reads of a word are reads without a label. -/
theorem State.readWordAccesses_plain {place : Nat} {addr : Word} {access : BusAccess}
    (h : access ∈ s.readWordAccesses place addr) : access.PlainRead := by
  rw [State.readWordAccesses, List.mem_cons, List.mem_singleton] at h
  rcases h with rfl | rfl <;> exact s.readAccess_plain ..

/-- The accesses listed between the op code and the datum: operand bytes, pointer, re-read at a page crossing. -/
def addressReads (dummyReads : Bool) (i : Instr) (s : State) : List BusAccess :=
  operandFetches i s ++ pointerAccesses i s ++ crossingAccesses dummyReads i s

theorem operandFetches_plain {access : BusAccess} (h : access ∈ operandFetches i s) : access.PlainRead := by
  obtain ⟨k, -, rfl⟩ := List.mem_map.1 h
  exact s.readAccess_plain ..

theorem pointerAccesses_plain {access : BusAccess} (h : access ∈ pointerAccesses i s) : access.PlainRead := by
  unfold pointerAccesses at h
  split at h
  case h_1 | h_2 | h_3 =>
    rw [List.mem_cons, List.mem_singleton] at h
    rcases h with rfl | rfl <;> exact s.readAccess_plain ..
  case h_4 | h_5 => exact State.readWordAccesses_plain h
  case h_6 => exact absurd h List.not_mem_nil

theorem crossingAccesses_plain {access : BusAccess} (h : access ∈ crossingAccesses dummyReads i s) :
    access.PlainRead := by
  unfold crossingAccesses at h
  split at h
  · rw [List.mem_singleton.1 h]; exact s.readAccess_plain ..
  · exact absurd h List.not_mem_nil

theorem addressReads_plain {access : BusAccess} (h : access ∈ addressReads dummyReads i s) : access.PlainRead := by
  rcases List.mem_append.1 h with h | h
  · rcases List.mem_append.1 h with h | h
    · exact operandFetches_plain h
    · exact pointerAccesses_plain h
  · exact crossingAccesses_plain h

/-- No read of an instruction's data carries SYNC. -/
theorem dataReads_sync {access : BusAccess} (h : access ∈ dataReads dummyReads i s) : access.sync = false := by
  have hmodify {ml : Bool} (h : access ∈ (dataAddr i s).toList.flatMap (modifyReads dummyReads ml s)) :
      access.sync = false := by
    obtain ⟨ea, -, h⟩ := List.mem_flatMap.1 h
    rcases List.mem_cons.1 h with rfl | h
    · rfl
    · split at h
      · rw [List.mem_singleton.1 h]; rfl
      · exact absurd h List.not_mem_nil
  unfold dataReads at h
  split at h
  case h_2 => obtain ⟨ea, -, rfl⟩ := List.mem_map.1 h; rfl
  case h_4 | h_5 => exact hmodify h
  case h_7 => obtain ⟨k, -, rfl⟩ := List.mem_map.1 h; rfl
  case h_1 | h_3 | h_6 | h_8 => exact absurd h List.not_mem_nil

theorem vectorAccesses_sync {access : BusAccess} (h : access ∈ vectorAccesses i t) : access.sync = false := by
  unfold vectorAccesses at h
  split at h
  · exact (State.readWordAccesses_plain h).2.1
  · exact absurd h List.not_mem_nil

/-- The accesses listed: the op code, the reads that lead to the datum, and those of the datum and of the vector with the
writes made. -/
theorem listedAccesses_eq (dummyReads : Bool) (i : Instr) (s t : State) :
    listedAccesses dummyReads i s t =
      s.opcodeFetch ::
        (addressReads dummyReads i s ++ (dataReads dummyReads i s ++ t.bus ++ vectorAccesses i t)) := by
  simp [listedAccesses, fetchAccesses_eq, addressReads]

/-- After the op code no access listed carries SYNC (R316). -/
theorem listed_tail_sync (hs : s.bus = []) (ht : exec i s = .next t) {access : BusAccess}
    (h : access ∈ addressReads dummyReads i s ++ (dataReads dummyReads i s ++ t.bus ++ vectorAccesses i t)) :
    access.sync = false := by
  obtain ⟨made, hbus, -, hmade⟩ := (exec_effect ht).bus
  rw [hs, List.nil_append] at hbus
  rcases List.mem_append.1 h with h | h
  · exact (addressReads_plain h).2.1
  · rcases List.mem_append.1 h with h | h
    · rcases List.mem_append.1 h with h | h
      · exact dataReads_sync h
      · exact (hmade access (hbus ▸ h)).2
    · exact vectorAccesses_sync h

/-! How many accesses are listed -/

/-- The pointer reads of an operand form. -/
def Mode.pointerReads : Mode → Nat
  | .indX | .indY | .ind | .absInd | .absIndX => 2
  | _ => 0

/-- The most reads that the data and the vector of an instruction take, a discarded one among them. -/
def DataAccess.reads : DataAccess → Nat
  | .none | .write | .push _ => 0
  | .read => 1
  | .modify | .modifyBit | .breakEntry => 2
  | .pull n => n

/-- The forms whose index can carry into the high byte of the address (R74). -/
def Mode.canCross : Mode → Bool
  | .absX | .absY | .indY => true
  | _ => false

/-- The footnotes that add a cycle for such a carry (R360). -/
def Footnote.countsCrossing : Footnote → Bool
  | .page | .pageDecimal => true
  | _ => false

/-- The re-read at a page crossing that the cycle count of the matrix itself has to hold: of a form whose footnote does
not count it. -/
def Info.fixedCrossing (c : Info) : Nat := if c.mode.canCross && !c.footnote.countsCrossing then 1 else 0

theorem pointerAccesses_length (i : Instr) (s : State) :
    (pointerAccesses i s).length = (info i).mode.pointerReads := by
  unfold pointerAccesses Mode.pointerReads
  cases (info i).mode <;> rfl

theorem dataReads_vector_length_le (dummyReads : Bool) (i : Instr) (s t : State) :
    (dataReads dummyReads i s).length + (vectorAccesses i t).length ≤ (info i).data.reads := by
  have hmodify (ml : Bool) : ((dataAddr i s).toList.flatMap (modifyReads dummyReads ml s)).length ≤ 2 := by
    cases dataAddr i s <;> cases dummyReads <;> simp [modifyReads]
  unfold dataReads vectorAccesses
  cases (info i).data with
  | none | write | push n => exact Nat.le_refl 0
  | read => cases dataAddr i s <;> simp [DataAccess.reads]
  | modify => exact hmodify true
  | modifyBit => exact hmodify Config.mlDuringBitOps
  | pull n => simp [pullAccesses, DataAccess.reads]
  | breakEntry => exact Nat.le_refl 2

/-- A re-read at a page crossing is one of an index, and its cycle is in the footnote or in the matrix (R74, R360). -/
theorem crossingAccesses_length_le (dummyReads : Bool) (i : Instr) (s : State) :
    (crossingAccesses dummyReads i s).length ≤ (info i).fixedCrossing + extraCycles i s := by
  have hcan : indexCrosses i s = true → (info i).mode.canCross = true := by
    unfold indexCrosses
    cases (info i).mode <;> simp [Mode.canCross]
  have hextra : indexCrosses i s = true → (info i).footnote.countsCrossing = true → 1 ≤ extraCycles i s := by
    intro hcross
    unfold extraCycles
    rw [hcross]
    cases (info i).footnote <;> simp [Footnote.countsCrossing]
  unfold crossingAccesses
  split
  · next hcross =>
    rw [Bool.and_eq_true] at hcross
    cases hfoot : (info i).footnote.countsCrossing with
    | true => exact Nat.le_add_left_of_le (hextra hcross.1 hfoot)
    | false => simp [Info.fixedCrossing, hcan hcross.1, hfoot]
  · exact Nat.zero_le _

/-- The bytes of an unassigned op code take no more cycles than it has (R61, R125). -/
theorem reserved_length_le (op : Byte) :
    (op :: List.replicate (Config.rsvLen op - 1) 0x00).length ≤ Config.rsvCycles op := by
  rw [List.length_cons, List.length_replicate, Laws.rsvLen_pos]
  exact Nat.le_add_right _ _

/-- The cycles of every cell of the op-code map hold the accesses that its bytes, its form and its data ask for (R61,
R360). -/
theorem info_cycles_hold (i : Instr) :
    (encode i).length + (info i).mode.pointerReads + (info i).fixedCrossing + (info i).data.reads +
      (info i).data.writes ≤ (info i).cycles := by
  cases i
  case rsv02 | rsv03 | rsv0B | rsv13 | rsv1B | rsv22 | rsv23 | rsv2B | rsv33 | rsv3B | rsv42 | rsv43 | rsv44 |
      rsv4B | rsv53 | rsv54 | rsv5B | rsv5C | rsv62 | rsv63 | rsv6B | rsv73 | rsv7B | rsv82 | rsv83 | rsv8B |
      rsv93 | rsv9B | rsvA3 | rsvAB | rsvB3 | rsvBB | rsvC2 | rsvC3 | rsvCB | rsvD3 | rsvD4 | rsvDB | rsvDC |
      rsvE2 | rsvE3 | rsvEB | rsvF3 | rsvF4 | rsvFB | rsvFC =>
    exact reserved_length_le _
  all_goals exact Nat.le_of_ble_eq_true rfl

/-- No instruction has more accesses listed than cycles (R61). -/
theorem listedAccesses_length_le (hs : s.bus = []) (ht : exec i s = .next t) :
    (listedAccesses dummyReads i s t).length ≤ cyclesOf i s := by
  obtain ⟨made, hbus, hlen, -⟩ := (exec_effect ht).bus
  rw [hs, List.nil_append] at hbus
  have hfetch := fetchAccesses_length i s
  have hpointer := pointerAccesses_length i s
  have hcross := crossingAccesses_length_le dummyReads i s
  have hreads := dataReads_vector_length_le dummyReads i s t
  have hhold := info_cycles_hold i
  simp only [listedAccesses, List.length_append, cyclesOf, hbus]
  omega

/-! Where the accesses of R76 stand -/

theorem one_le_lastMoment (i : Instr) : 1 ≤ lastMoment i := by
  unfold lastMoment
  split <;> decide

/-- The fetch of the op code stands before the first moment at which a read of R76 can be made. -/
theorem State.opcodeFetch_first (s : State) : ∀ access ∈ [s.opcodeFetch], 2 * access.place < 1 := by
  intro access h
  rw [List.mem_singleton.1 h]
  exact Nat.zero_lt_one

/-- The record begins with the op code, and no access after it carries SYNC (R316). -/
theorem recordedAccesses_head (hs : s.bus = []) (ht : exec i s = .next t) :
    ∃ rest, recordedAccesses dummyReads i s t = s.opcodeFetch :: rest ∧ ∀ access ∈ rest, access.sync = false := by
  obtain ⟨rest, heq, -, -, hmem, -⟩ := s.fillCycles_spec dummyReads (unreadAddr i s) (one_le_lastMoment i)
    (cyclesOf i s) [s.opcodeFetch]
    (addressReads dummyReads i s ++ (dataReads dummyReads i s ++ t.bus ++ vectorAccesses i t)) []
    s.opcodeFetch_first nofun
  refine ⟨rest, ?_, fun access h => ?_⟩
  · rw [recordedAccesses, listedAccesses_eq]
    simpa using heq
  · rcases hmem access h with h | ⟨k, moment, l, rfl⟩
    · exact listed_tail_sync hs ht h
    · rfl

end Sys2Proof.Machine

namespace Sys2Proof.Claims

open Sys2Proof.Machine

/-- Settles O56: the reads of R76 fill the cycles that the accesses listed leave. -/
theorem fetchLabels : Obligations.FetchLabels := by
  intro i s t dummyReads hs ht listed all
  obtain ⟨hsub, hcount, hmem, -⟩ := s.fillCycles_listed dummyReads (unreadAddr i s) (one_le_lastMoment i)
    (cyclesOf i s) (listedAccesses dummyReads i s t)
  refine ⟨recordedAccesses_head hs ht, ?_, hsub, fun access h => ?_, fun hd => ?_, fun hd => ?_, rfl⟩
  · have htake : listed.take (encode i).length = fetchAccesses i s := by
      simp only [listed, listedAccesses, List.append_assoc]
      exact List.take_left' (fetchAccesses_length i s)
    rw [htake, fetchAccesses_addrs]
  · rcases hmem access h with h | ⟨k, moment, l, rfl⟩
    · exact .inl h
    · exact .inr ⟨rfl, rfl⟩
  · subst hd
    exact State.fillCycles_false ..
  · exact hcount hd (listedAccesses_length_le hs ht)

end Sys2Proof.Claims

/-! PROOFS. The read-modify-writes: the last accesses of each, and where their label ML stands (R72, R73). -/

namespace Sys2Proof.Machine

open Sys2Proof.Claims

variable {i : Instr} {s t : State} {ea : Word} {ml dummyReads : Bool}

/-- An instruction whose data accesses are the read, read and write of an effective address, with ML as `ml` has it in
the last two (R72, R73). -/
structure Modifies (i : Instr) (s : State) (ea : Word) (ml : Bool) : Prop where
  data : (info i).data = .modify ∧ ml = true ∨ (info i).data = .modifyBit ∧ ml = Config.mlDuringBitOps
  addr : dataAddr i s = some ea
  answers : ∃ v len p, exec i s = .next { (s.writeBack ml ea v).advance len with p := p }

/-- The read-modify-writes whose ML the source states (R73). -/
theorem Modifies.locked (hdata : (info i).data = .modify) (haddr : dataAddr i s = some ea)
    (hexec : ∃ v len p, exec i s = .next { (s.writeBack true ea v).advance len with p := p }) : Modifies i s ea true :=
  ⟨.inl ⟨hdata, rfl⟩, haddr, hexec⟩

theorem Modifies.dataReads_eq (h : Modifies i s ea ml) : dataReads dummyReads i s = modifyReads dummyReads ml s ea := by
  rcases h.data with ⟨hdata, rfl⟩ | ⟨hdata, rfl⟩ <;> simp [dataReads, hdata, h.addr]

theorem Modifies.vectorAccesses_eq (h : Modifies i s ea ml) : vectorAccesses i t = [] := by
  rcases h.data with ⟨hdata, -⟩ | ⟨hdata, -⟩ <;> simp [vectorAccesses, hdata]

theorem Modifies.lastMoment_eq (h : Modifies i s ea ml) : lastMoment i = 2 * dataPlace := by
  rcases h.data with ⟨hdata, -⟩ | ⟨hdata, -⟩ <;> simp [lastMoment, hdata]

/-- The write of the result is the one write made, and RAM holds it afterwards. -/
theorem Modifies.write (h : Modifies i s ea ml) (ht : exec i s = .next t) :
    ∃ v, t.bus = s.bus ++ [{ writeAccess writeBackPlace ea v with ml := ml }] ∧
      (kindAt s.platform ea = .ram → t.read ea = v) := by
  obtain ⟨v, len, p, hexec⟩ := h.answers
  obtain rfl : _ = t := by injection hexec.symm.trans ht
  refine ⟨v, rfl, fun hram => ?_⟩
  exact (State.read_writeAt s writeBackPlace ml ea v ea).trans (if_pos ⟨rfl, hram⟩)

/-- The accesses of the datum stand at and after the last moment at which a read of R76 can be made. -/
theorem modify_accesses_last (dummyReads ml : Bool) (s : State) (ea : Word) (v : Byte) :
    ∀ access ∈ modifyReads dummyReads ml s ea ++ [{ writeAccess writeBackPlace ea v with ml := ml }],
      2 * dataPlace ≤ 2 * access.place := by
  intro access h
  rcases List.mem_append.1 h with h | h
  · rcases List.mem_cons.1 h with rfl | h
    · exact Nat.le_refl _
    · split at h
      · rw [List.mem_singleton.1 h]; exact Nat.le_of_ble_eq_true rfl
      · exact absurd h List.not_mem_nil
  · rw [List.mem_singleton.1 h]; exact Nat.le_of_ble_eq_true rfl

/-- The record of a read-modify-write ends with its reads and its write; what stands before them is reads without ML. -/
theorem Modifies.recorded (h : Modifies i s ea ml) (hs : s.bus = []) (ht : exec i s = .next t) :
    ∃ before v, recordedAccesses dummyReads i s t =
        before ++ (modifyReads dummyReads ml s ea ++ [{ writeAccess writeBackPlace ea v with ml := ml }]) ∧
      (∀ access ∈ before, access.write = false ∧ access.ml = false) ∧
      (kindAt s.platform ea = .ram → t.read ea = v) := by
  obtain ⟨v, hbus, hread⟩ := h.write ht
  rw [hs, List.nil_append] at hbus
  obtain ⟨rest, heq, -, -, hmem, -⟩ := s.fillCycles_spec dummyReads (unreadAddr i s)
    (h.lastMoment_eq ▸ one_le_lastMoment i) (cyclesOf i s) [s.opcodeFetch] (addressReads dummyReads i s) _
    s.opcodeFetch_first (modify_accesses_last dummyReads ml s ea v)
  refine ⟨s.opcodeFetch :: rest, v, ?_, fun access haccess => ?_, hread⟩
  · rw [recordedAccesses, listedAccesses_eq, h.dataReads_eq, h.vectorAccesses_eq, hbus, h.lastMoment_eq]
    simpa using heq
  · rcases List.mem_cons.1 haccess with rfl | hrest
    · exact ⟨rfl, rfl⟩
    · rcases hmem access hrest with hread' | ⟨k, moment, l, rfl⟩
      · obtain ⟨hwrite, -, hml⟩ := addressReads_plain hread'
        exact ⟨hwrite, hml⟩
      · exact ⟨rfl, rfl⟩

end Sys2Proof.Machine

namespace Sys2Proof.Claims

open Sys2Proof.Machine

/-- The operand of an absolute form is the word its two bytes hold (R107). -/
theorem dataAddr_abs {i : Instr} {w : Word} (hmode : (info i).mode = .abs)
    (hbytes : operandBytes i = [lowByte w, highByte w]) (s : State) : dataAddr i s = some w := by
  simp [dataAddr, hmode, operandWord, operand1, hbytes]

theorem dataAddr_absX {i : Instr} {w : Word} (hmode : (info i).mode = .absX)
    (hbytes : operandBytes i = [lowByte w, highByte w]) (s : State) : dataAddr i s = some (eaAbsX w s) := by
  simp [dataAddr, hmode, operandWord, operand1, hbytes]

/-- Each memory form whose modify and write cycles assert ML is a read-modify-write of its effective address (R73). -/
theorem lockedForms_modify {s : State} {b : Byte} {w : Word} {f : StoreForm} (hf : f ∈ lockedForms s b w) :
    Modifies f.instr s f.ea true := by
  simp only [lockedForms, aslForms, decForms, incForms, lsrForms, rolForms, rorForms, fourForms, trbForms, tsbForms,
    List.mem_append, List.mem_cons, List.not_mem_nil, or_false] at hf
  rcases hf with ((((((hf | hf) | hf) | hf) | hf) | hf) | hf) | hf
  case inr | inl.inr =>
    rcases hf with rfl | rfl
    · exact .locked rfl rfl ⟨_, _, _, rfl⟩
    · exact .locked rfl (dataAddr_abs rfl rfl s) ⟨_, _, _, rfl⟩
  all_goals
    rcases hf with rfl | rfl | rfl | rfl
    · exact .locked rfl rfl ⟨_, _, _, rfl⟩
    · exact .locked rfl rfl ⟨_, _, _, rfl⟩
    · exact .locked rfl (dataAddr_abs rfl rfl s) ⟨_, _, _, rfl⟩
    · exact .locked rfl (dataAddr_absX rfl rfl s) ⟨_, _, _, rfl⟩

/-- RMBn and SMBn are read-modify-writes of a page-zero byte, with ML as the free constant has it (R200, R201). -/
theorem rmb_modifies (n : Fin 8) (b : Byte) (s : State) : Modifies (rmb n b) s (eaZp b) Config.mlDuringBitOps := by
  fin_cases n <;> exact ⟨.inr ⟨rfl, rfl⟩, rfl, _, _, _, rfl⟩

theorem smb_modifies (n : Fin 8) (b : Byte) (s : State) : Modifies (smb n b) s (eaZp b) Config.mlDuringBitOps := by
  fin_cases n <;> exact ⟨.inr ⟨rfl, rfl⟩, rfl, _, _, _, rfl⟩

/-- Settles O57: each of these instructions is a read-modify-write, and the record of one ends as the statement says. -/
theorem modifyAccesses : Obligations.ModifyAccesses := by
  intro s t b w n dummyReads hs pattern
  have hpattern {i : Instr} {ea : Word} {ml : Bool} (h : Modifies i s ea ml) : pattern i ea ml :=
    fun ht => h.recorded hs ht
  exact ⟨fun f hf => hpattern (lockedForms_modify hf), hpattern (rmb_modifies n b s), hpattern (smb_modifies n b s),
    fun i => rfl⟩

end Sys2Proof.Claims

/-! PROOFS. What an instruction stored at `pc` is fetched as. -/

namespace Sys2Proof.Machine

/-- A word whose two bytes begin a list is the word of that list's first two bytes. -/
theorem eq_wordOf_of_prefix {w : Word} {b1 b2 : Byte} (h : [lowByte w, highByte w] <+: [b1, b2]) :
    w = wordOf b1 b2 := by
  obtain ⟨hlow, h⟩ := List.cons_prefix_cons.1 h
  obtain ⟨hhigh, -⟩ := List.cons_prefix_cons.1 h
  rw [← hlow, ← hhigh, wordOf_lowByte_highByte]

/-- The decoder reads an instruction from its op code and its operand bytes, whatever follows them (R101, R102). -/
theorem decodeOp_of_prefix {i : Instr} {b1 b2 : Byte} (h : operandBytes i <+: [b1, b2]) :
    decodeOp (opcode i) b1 b2 = i := by
  cases i <;> dsimp only [opcode]
  case rsv02 | rsv03 | rsv0B | rsv13 | rsv1B | rsv22 | rsv23 | rsv2B | rsv33 | rsv3B | rsv42 | rsv43 | rsv44 |
      rsv4B | rsv53 | rsv54 | rsv5B | rsv5C | rsv62 | rsv63 | rsv6B | rsv73 | rsv7B | rsv82 | rsv83 | rsv8B |
      rsv93 | rsv9B | rsvA3 | rsvAB | rsvB3 | rsvBB | rsvC2 | rsvC3 | rsvCB | rsvD3 | rsvD4 | rsvDB | rsvDC |
      rsvE2 | rsvE3 | rsvEB | rsvF3 | rsvF4 | rsvFB | rsvFC => rfl
  case brk | php | aslAcc | clc | incAcc | plp | rolAcc | sec | decAcc | rti | pha | lsrAcc | cli | phy | rts | pla |
      rorAcc | sei | ply | dey | txa | tya | txs | tay | tax | clv | tsx | iny | dex | cld | phx | inx | nop | sed |
      plx => rfl
  case bbr0 zp rel | bbr1 zp rel | bbr2 zp rel | bbr3 zp rel | bbr4 zp rel | bbr5 zp rel | bbr6 zp rel | bbr7 zp rel |
      bbs0 zp rel | bbs1 zp rel | bbs2 zp rel | bbs3 zp rel | bbs4 zp rel | bbs5 zp rel | bbs6 zp rel | bbs7 zp rel =>
    obtain ⟨hzp, h⟩ := List.cons_prefix_cons.1 h
    obtain ⟨hrel, -⟩ := List.cons_prefix_cons.1 h
    rw [hzp, hrel]
    rfl
  case tsbAbs | oraAbs | aslAbs | oraAbsY | trbAbs | oraAbsX | aslAbsX | jsr | bitAbs | andAbs | rolAbs | andAbsY |
      bitAbsX | andAbsX | rolAbsX | jmpAbs | eorAbs | lsrAbs | eorAbsY | eorAbsX | lsrAbsX | jmpInd | adcAbs | rorAbs |
      adcAbsY | jmpIndX | adcAbsX | rorAbsX | styAbs | staAbs | stxAbs | staAbsY | stzAbs | staAbsX | stzAbsX | ldyAbs |
      ldaAbs | ldxAbs | ldaAbsY | ldyAbsX | ldaAbsX | ldxAbsY | cpyAbs | cmpAbs | decAbs | cmpAbsY | cmpAbsX | decAbsX |
      cpxAbs | sbcAbs | incAbs | sbcAbsY | sbcAbsX | incAbsX =>
    rw [eq_wordOf_of_prefix h]
    rfl
  all_goals
    obtain ⟨hb1, -⟩ := List.cons_prefix_cons.1 h
    rw [hb1]
    rfl

/-- The address after the next `k` ones is the `k`-th after the next. -/
theorem word_add_succ (addr : Word) (k : Nat) : addr + BitVec.ofNat 16 (k + 1) = addr + 1 + BitVec.ofNat 16 k := by
  rw [Nat.add_comm k 1, BitVec.ofNat_add, ← BitVec.add_assoc]
  rfl

/-- Bytes stored at other addresses leave an address as it is (R62). -/
theorem State.read_writeBytes_of_ne {bytes : List Byte} {s : State} {addr other : Word}
    (h : ∀ k < bytes.length, addr + BitVec.ofNat 16 k ≠ other) :
    (s.writeBytes addr bytes).read other = s.read other := by
  induction bytes generalizing s addr with
  | nil => rfl
  | cons v rest ih =>
    have hhead : addr ≠ other := by simpa using h 0 (Nat.zero_lt_succ _)
    have htail : ∀ k < rest.length, addr + 1 + BitVec.ofNat 16 k ≠ other := by
      intro k hk
      rw [← word_add_succ]
      exact h (k + 1) (Nat.succ_lt_succ hk)
    rw [State.writeBytes, ih htail, State.read_write, if_neg fun hc => hhead hc.1]

@[simp] theorem State.writeBytes_platform (s : State) (addr : Word) (bytes : List Byte) :
    (s.writeBytes addr bytes).platform = s.platform := by
  induction bytes generalizing s addr with
  | nil => rfl
  | cons v rest ih => exact ih _ _

@[simp] theorem State.writeBytes_dma (s : State) (addr : Word) (bytes : List Byte) :
    (s.writeBytes addr bytes).dma = s.dma := by
  induction bytes generalizing s addr with
  | nil => rfl
  | cons v rest ih => exact ih _ _

@[simp] theorem State.writeBytes_pc (s : State) (addr : Word) (bytes : List Byte) :
    (s.writeBytes addr bytes).pc = s.pc := by
  induction bytes generalizing s addr with
  | nil => rfl
  | cons v rest ih => exact ih _ _

/-- Bytes stored in RAM from an address on are there afterwards, while they do not fill the address space (R62,
R100). -/
theorem State.read_writeBytes {bytes : List Byte} {s : State} {addr : Word} (hlen : bytes.length ≤ 65536) {k : Nat}
    (hk : k < bytes.length) (hram : kindAt s.platform (addr + BitVec.ofNat 16 k) = .ram) :
    (s.writeBytes addr bytes).read (addr + BitVec.ofNat 16 k) = bytes[k] := by
  induction bytes generalizing s addr k with
  | nil => exact absurd hk (Nat.not_lt_zero k)
  | cons v rest ih =>
    rw [List.length_cons] at hlen hk
    cases k with
    | zero =>
      have haddr : addr + BitVec.ofNat 16 0 = addr := BitVec.add_zero addr
      rw [haddr] at hram ⊢
      have hpast : ∀ k < rest.length, addr + 1 + BitVec.ofNat 16 k ≠ addr := by intro k hk; bv_omega
      rw [State.writeBytes, State.read_writeBytes_of_ne hpast, State.read_write, if_pos ⟨rfl, hram⟩,
        List.getElem_cons_zero]
    | succ k =>
      rw [word_add_succ] at hram ⊢
      exact ih (Nat.le_of_succ_le hlen) (Nat.lt_of_succ_lt_succ hk) hram

/-- No instruction has more than three bytes (R103, R125). -/
theorem encode_length_le (i : Instr) : (encode i).length ≤ 3 := by
  have hrsv (op : Byte) : (op :: List.replicate (Config.rsvLen op - 1) (0x00 : Byte)).length ≤ 3 := by
    rw [List.length_cons, List.length_replicate, Laws.rsvLen_pos]
    exact (Config.rsvLenMinusOne op).isLt
  cases i
  case rsv02 | rsv03 | rsv0B | rsv13 | rsv1B | rsv22 | rsv23 | rsv2B | rsv33 | rsv3B | rsv42 | rsv43 | rsv44 |
      rsv4B | rsv53 | rsv54 | rsv5B | rsv5C | rsv62 | rsv63 | rsv6B | rsv73 | rsv7B | rsv82 | rsv83 | rsv8B |
      rsv93 | rsv9B | rsvA3 | rsvAB | rsvB3 | rsvBB | rsvC2 | rsvC3 | rsvCB | rsvD3 | rsvD4 | rsvDB | rsvDC |
      rsvE2 | rsvE3 | rsvEB | rsvF3 | rsvF4 | rsvFB | rsvFC => exact hrsv _
  all_goals exact Nat.le_of_ble_eq_true rfl

/-- What is fetched is the instruction whose bytes the reads from `pc` on give (R102). -/
theorem State.fetch_of_reads {s : State} {i : Instr}
    (h : ∀ k (hk : k < (encode i).length), s.readAt (fetchPlace + k) (s.pc + BitVec.ofNat 16 k) = (encode i)[k]) :
    s.fetch = i := by
  have hop : s.readAt fetchPlace s.pc = opcode i := by
    have h0 := h 0 (Nat.zero_lt_succ _)
    rwa [show s.pc + BitVec.ofNat 16 0 = s.pc from BitVec.add_zero s.pc] at h0
  have hoperands : operandBytes i <+:
      [s.readAt (fetchPlace + 1) (s.pc + 1), s.readAt (fetchPlace + 2) (s.pc + 2)] := by
    rw [List.prefix_iff_getElem?]
    intro k hk
    have hlen := encode_length_le i
    have hk' : k + 1 < (encode i).length := Nat.succ_lt_succ hk
    have hnext := h (k + 1) hk'
    match k with
    | 0 => exact congrArg some hnext
    | 1 => exact congrArg some hnext
    | k + 2 => omega
  rw [State.fetch, hop, decodeOp_of_prefix hoperands]

end Sys2Proof.Machine

namespace Sys2Proof.Claims

open Sys2Proof.Machine

/-- Settles O5. -/
theorem fetchStored : Obligations.FetchStored := by
  intro i s hdma hram
  refine State.fetch_of_reads fun k hk => ?_
  have hram' := hram k hk
  have hlen := encode_length_le i
  rw [State.writeBytes_pc, State.readAt_ram (by rwa [State.writeBytes_platform]),
    State.upTo_of_nil (by rwa [State.writeBytes_dma])]
  exact State.read_writeBytes (by omega) hk hram'

end Sys2Proof.Claims

/-! PROOFS. The stack: pushes, pulls, the pushed image of `P`, subroutines. -/

namespace Sys2Proof.Machine

open Sys2Proof.Claims

variable {s : State}

/-! Pushes -/

/-- `State.read_push`, as the statements have it. -/
theorem State.read_push_stored (s : State) (place : Nat) (v : Byte) (addr : Word) :
    (s.push place v).read addr =
      if addr = stackAddr s.sp ∧ kindAt s.platform addr = .ram then v else (s.upTo place).read addr := by
  rw [State.read_push]
  simp only [eq_comm (a := addr)]

/-- The pushes (R252 to R255). -/
theorem pushByte_stored (v : Byte) (s : State) : ∃ t, pushByte v s = .next t ∧
    t = { s with
      mem := t.mem, dma := (s.upTo dataPlace).dma, bus := s.bus ++ [writeAccess dataPlace (stackAddr s.sp) v]
      sp := s.sp - 1, pc := pcAfter s 1 } ∧
    ∀ addr : Word, t.read addr =
      if addr = stackAddr s.sp ∧ kindAt s.platform addr = .ram then v else (s.upTo dataPlace).read addr := by
  refine ⟨_, rfl, ?_, State.read_push_stored s dataPlace v⟩
  rw [← pc_add_eq_pcAfter]
  rfl

/-! The image of `P` -/

/-- The flags a byte gives are those its image gives back (R39, R40). -/
theorem flagsOf_image (p : Flags) (b : Bool) : flagsOf (p.image b) = p := Flags.ofByte_image p b

/-- Bit 5 of the image is 1, and bit 4 is `b` (R39). -/
theorem Flags.image_unused_bits (p : Flags) (b : Bool) :
    (p.image b).getLsbD 5 = true ∧ (p.image b).getLsbD 4 = b := by
  obtain ⟨n, v, d, i, z, c⟩ := p
  revert n v d i z c b
  decide

/-- The image of a byte's flags is that byte but for bits 5 and 4 (R39, R40). -/
theorem image_flagsOf (v : Byte) : (flagsOf v).image true &&& 0xCF = v &&& 0xCF := by
  revert v
  decide

/-- Bits 5 and 4 give no flag (R40). -/
theorem flagsOf_masked (v : Byte) : flagsOf (v &&& 0xCF) = flagsOf v := by
  revert v
  decide

/-- Two bytes give the same flags exactly where they differ at most in bits 5 and 4 (R40). -/
theorem flagsOf_eq_iff (v v' : Byte) : flagsOf v = flagsOf v' ↔ v &&& 0xCF = v' &&& 0xCF := by
  constructor
  · intro h
    rw [← image_flagsOf v, h, image_flagsOf]
  · intro h
    rw [← flagsOf_masked v, h, flagsOf_masked]

/-! The writes of the interrupt entry -/

theorem State.enterInterrupt_bus (s : State) (vector : Word) (b : Bool) (ret : Word) :
    (s.enterInterrupt vector b ret).bus = s.bus ++ entryWrites s b ret :=
  congrArg State.bus (s.enterInterrupt_eq vector b ret)

/-- The third write of the entry is that of the status image (R305). -/
theorem image_mem_entryWrites (s : State) (b : Bool) (ret : Word) :
    writeAccess (dataPlace + 2) (stackAddr (s.sp - 2)) (s.p.image b) ∈ entryWrites s b ret := by
  simp [entryWrites]

/-- The record of a hardware interrupt's entry holds the writes of the entry (R305, R325). -/
theorem State.mem_takeInterrupt_bus {vector : Word} {access : BusAccess} (h : access ∈ entryWrites s false s.pc) :
    access ∈ (s.takeInterrupt vector).bus := by
  rw [State.takeInterrupt_eq]
  refine (s.fillCycles_listed Config.dummyReads none (Nat.zero_le _) 7 _).1.subset (List.mem_append_left _ ?_)
  rw [State.enterInterrupt_bus]
  exact List.mem_append_right _ h

/-! A pull after a push -/

/-- What a push and the pull after it leave: `pc` and the byte pushed, with no other bus master at work (R25, R26). -/
theorem State.pull_push_eq (hd : s.dma = []) (v : Byte) :
    ((s.push dataPlace v).advance 1).pull = { s with
      mem := (s.push dataPlace v).mem, bus := s.bus ++ [writeAccess dataPlace (stackAddr s.sp) v]
      pc := pcAfter s 1 } := by
  simp [State.push, State.pull, State.advance, State.writeAt, State.upTo_of_nil hd, writeAccess, ← pc_add_eq_pcAfter]

/-- A push and then a pull that changes no register but the one pushed, `P` and `pc` (R252 to R259). -/
theorem push_then_pull (hd : s.dma = []) {push pull : Instr} {v : Byte} {p : Flags}
    (hpush : exec push s = pushByte v s)
    (hpull : exec pull ((s.push dataPlace v).advance 1) = .next { ((s.push dataPlace v).advance 1).pull with
      p := p, pc := pcAfter ((s.push dataPlace v).advance 1) 1 }) :
    ∃ t u, exec push s = .next t ∧ exec pull t = .next u ∧
      u = { s with
        mem := u.mem, bus := s.bus ++ [writeAccess dataPlace (stackAddr s.sp) v], p := p, pc := pcAfter s 2 } ∧
      ∀ addr : Word, addr ≠ stackAddr s.sp → u.read addr = s.read addr := by
  refine ⟨_, _, hpush, hpull, ?_, fun addr hne => ?_⟩
  · have hpc : pcAfter ((s.push dataPlace v).advance 1) 1 = pcAfter s 2 := by
      simp only [← pc_add_eq_pcAfter, State.advance_pc, State.push_pc]
      bv_omega
    rw [hpc, State.pull_push_eq hd]
  · show (s.push dataPlace v).read addr = s.read addr
    rw [State.read_push_stored, if_neg fun h => hne h.1, State.upTo_of_nil hd]

/-! Subroutines -/

/-- The bytes of the address of JSR's third byte, as the statement has them (R233). -/
theorem highByte_add_two (pc : Word) : highByte (pc + 2) = BitVec.ofNat 8 ((pc.toNat + 2) % 65536 / 256) := by
  apply BitVec.eq_of_toNat_eq
  rw [highByte_toNat, BitVec.toNat_add, BitVec.toNat_ofNat, show BitVec.toNat (2 : Word) = 2 from rfl]
  omega

theorem lowByte_add_two (pc : Word) : lowByte (pc + 2) = BitVec.ofNat 8 ((pc.toNat + 2) % 256) := by
  apply BitVec.eq_of_toNat_eq
  rw [lowByte_toNat, BitVec.toNat_add, BitVec.toNat_ofNat, show BitVec.toNat (2 : Word) = 2 from rfl]
  omega

/-- `State.read_pushWord`, as the statements have it. -/
theorem State.read_pushWord_stored (hd : s.dma = []) (w : Word) (addr : Word) :
    (s.pushWord w).read addr =
      if kindAt s.platform addr ≠ .ram then s.read addr
      else if addr = stackAddr s.sp then highByte w
      else if addr = stackAddr (s.sp - 1) then lowByte w
      else s.read addr := by
  have hne : stackAddr (s.sp - 1) ≠ stackAddr s.sp := fun h => by have := stackAddr_inj.1 h; bv_omega
  rw [State.read_pushWord hd]
  by_cases hram : kindAt s.platform addr = .ram
  · simp only [hram, and_true, ne_eq, not_true_eq_false, if_false, eq_comm (b := addr)]
    by_cases htop : addr = stackAddr s.sp
    · subst htop
      rw [if_neg hne.symm, if_pos rfl, if_pos rfl]
    · rw [if_neg htop, if_neg htop]
  · simp [hram]

/-- All of the two pushes of a word but the memory and the other masters' writes they leave (R25, R233). -/
theorem State.pushWord_eq (s : State) (w : Word) :
    s.pushWord w = { s with
      mem := (s.pushWord w).mem, dma := (s.pushWord w).dma
      bus := s.bus ++
        [writeAccess dataPlace (stackAddr s.sp) (highByte w),
         writeAccess (dataPlace + 1) (stackAddr (s.sp - 1)) (lowByte w)]
      sp := s.sp - 2 } := by
  have h2 : s.sp - 1#8 - 1#8 = s.sp - 2#8 := by bv_omega
  simp [State.pushWord, State.push, State.writeAt, State.upTo, writeAccess, h2]

/-- The word two pulls give (R26, R234). -/
theorem State.pulledWord_eq (s : State) (place : Nat) :
    s.pulledWord place =
      wordOf (s.readAt place (stackAddr (s.sp + 1))) (s.readAt (place + 1) (stackAddr (s.sp + 2))) := by
  have h2 : s.pull.sp + 1 = s.sp + 2 := by rw [State.pull_sp]; bv_omega
  rw [State.pulledWord, State.pulled, State.pulled, h2, State.readAt_pull]

/-- The word of two bytes plus one, as the statement has it (R234). -/
theorem wordOf_add_one (lo hi : Byte) : wordOf lo hi + 1 = BitVec.ofNat 16 (lo.toNat + 256 * hi.toNat + 1) := by
  apply BitVec.eq_of_toNat_eq
  rw [BitVec.toNat_add, wordOf_toNat, BitVec.toNat_ofNat, Nat.add_comm (256 * hi.toNat)]
  rfl

end Sys2Proof.Machine

namespace Sys2Proof.Claims

open Sys2Proof.Machine

/-- Settles O30. -/
theorem stackOperations : Obligations.StackOperations := by
  intro s place later v
  refine ⟨stackAddr_toNat s.sp, State.read_push_stored s place v, rfl, ?_, rfl, ?_, rfl, fun _ => rfl, ?_,
    fun hd hram => State.pulled_push hd hram place later v⟩
  · rw [State.push_sp, BitVec.toNat_sub, Nat.add_comm]
    rfl
  · rw [State.pull_sp, BitVec.toNat_add]
    rfl
  · rw [State.pull_sp, State.push_sp, BitVec.sub_add_cancel]

/-- Settles O31. -/
theorem statusImage : Obligations.StatusImage := by
  refine ⟨fun p b => ?_, fun s => ⟨_, rfl, rfl⟩, fun s => ⟨_, rfl, ?_⟩, fun s => ?_, fun s => ?_⟩
  · have hflags := flagsOf_image p b
    obtain ⟨hbit5, hbit4⟩ := p.image_unused_bits b
    exact ⟨congrArg Flags.n hflags, congrArg Flags.v hflags, hbit5, hbit4, congrArg Flags.d hflags,
      congrArg Flags.i hflags, congrArg Flags.z hflags, congrArg Flags.c hflags⟩
  · rw [State.enterInterrupt_bus]
    exact List.mem_append_right _ (image_mem_entryWrites ..)
  · exact State.mem_takeInterrupt_bus (image_mem_entryWrites ..)
  · exact State.mem_takeInterrupt_bus (s := { s with nmiPending := false }) (image_mem_entryWrites ..)

/-- Settles O32. -/
theorem setPResult : Obligations.SetPResult :=
  ⟨fun _ => ⟨_, rfl, rfl⟩, fun _ => ⟨_, rfl, rfl⟩, flagsOf_eq_iff⟩

/-- Settles O33. -/
theorem pushPullResult : Obligations.PushPullResult := by
  intro s pushes v
  have hplp : exec .plp s = .next { s with sp := s.sp + 1, p := flagsOf v, pc := pcAfter s 1 } := by
    rw [← pc_add_eq_pcAfter]
    rfl
  exact ⟨pushByte_stored _ _, pushByte_stored _ _, pushByte_stored _ _, pushByte_stored _ _, lda_eq v 1 s.pull,
    ldx_eq v 1 s.pull, ldy_eq v 1 s.pull, hplp, congrArg Host.Outcome.next s.returnFromInterrupt_eq⟩

/-- Settles O34: a pull after a push gives the byte pushed. -/
theorem pushThenPull : Obligations.PushThenPull := by
  intro s hd hram gives
  have hpulled (v : Byte) : ((s.push dataPlace v).advance 1).pulled dataPlace = v :=
    State.pulled_push hd hram dataPlace dataPlace v
  refine ⟨push_then_pull hd rfl ?_, push_then_pull hd rfl ?_, push_then_pull hd rfl ?_, push_then_pull hd rfl ?_⟩
  · show lda _ 1 _ = _
    rw [hpulled, lda_eq]
    rfl
  · show ldx _ 1 _ = _
    rw [hpulled, ldx_eq]
    rfl
  · show ldy _ 1 _ = _
    rw [hpulled, ldy_eq]
    rfl
  · show setP _ _ = _
    rw [hpulled, Flags.ofByte_image, setP, ← pc_add_eq_pcAfter]
    rfl

/-- Settles O35. -/
theorem subroutineResult : Obligations.SubroutineResult := by
  constructor
  · intro s w hi lo
    have hhi : highByte (s.pc + 2) = hi := highByte_add_two s.pc
    have hlo : lowByte (s.pc + 2) = lo := lowByte_add_two s.pc
    refine ⟨_, rfl, ?_, fun hd => ⟨State.pushWord_dma_nil hd _, fun addr => ?_⟩⟩
    · rw [← hhi, ← hlo]
      exact congrArg (fun t : State => { t with pc := w }) (s.pushWord_eq (s.pc + 2))
    · have hread := State.read_pushWord_stored hd (s.pc + 2) addr
      rwa [hhi, hlo] at hread
  · intro s
    have hsp : s.sp + 1 + 1 = s.sp + 2 := by bv_omega
    show Host.Outcome.next { s with sp := s.sp + 1 + 1, pc := s.pulledWord dataPlace + 1 } = _
    rw [hsp, State.pulledWord_eq, wordOf_add_one]

end Sys2Proof.Claims

/-! PROOFS. Which instructions change D, I, V or S. -/

namespace Sys2Proof.Machine

open Sys2Proof.Claims

/-- `t` differs from `s` in D, I, V and S only where the instruction `i` is among those named (R23, R33, R34, R37). -/
structure ChangesNamed (i : Instr) (s t : State) : Prop where
  decimal : t.p.d ≠ s.p.d → i ∈ [Instr.sed, .cld, .plp, .rti, .brk]
  interrupt : t.p.i ≠ s.p.i → i ∈ [Instr.sei, .cli, .plp, .rti, .brk]
  overflow : t.p.v ≠ s.p.v → writesOverflow i = true
  stack : t.sp ≠ s.sp →
    i ∈ [Instr.txs, .pha, .php, .phx, .phy, .pla, .plp, .plx, .ply, .rts, .brk, .rti] ∨ ∃ w, i = .jsr w

section

variable {i : Instr} {s t : State}

/-- An instruction that leaves all four. -/
theorem ChangesNamed.ofNone (hd : t.p.d = s.p.d) (hi : t.p.i = s.p.i) (hv : t.p.v = s.p.v) (hsp : t.sp = s.sp) :
    ChangesNamed i s t :=
  ⟨fun h => absurd hd h, fun h => absurd hi h, fun h => absurd hv h, fun h => absurd hsp h⟩

/-- An instruction that leaves all but V. -/
theorem ChangesNamed.ofOverflow (hd : t.p.d = s.p.d) (hi : t.p.i = s.p.i) (hsp : t.sp = s.sp)
    (hnamed : writesOverflow i = true) : ChangesNamed i s t :=
  ⟨fun h => absurd hd h, fun h => absurd hi h, fun _ => hnamed, fun h => absurd hsp h⟩

/-- An instruction that leaves all but S. -/
theorem ChangesNamed.ofStack (hd : t.p.d = s.p.d) (hi : t.p.i = s.p.i) (hv : t.p.v = s.p.v)
    (hnamed : i ∈ [Instr.txs, .pha, .php, .phx, .phy, .pla, .plp, .plx, .ply, .rts, .brk, .rti] ∨
      ∃ w, i = .jsr w) :
    ChangesNamed i s t :=
  ⟨fun h => absurd hd h, fun h => absurd hi h, fun h => absurd hv h, fun _ => hnamed⟩

/-- ADC and SBC leave D, I and S in either mode. -/
theorem adc_changesNamed {m : Byte} {len : Nat} (hnamed : writesOverflow i = true) (h : adc m len s = .next t) :
    ChangesNamed i s t := by
  obtain ⟨-, rfl⟩ | ⟨-, rfl⟩ := adc_next h
  · exact .ofOverflow rfl rfl rfl hnamed
  · exact .ofOverflow rfl rfl rfl hnamed

theorem sbc_changesNamed {m : Byte} {len : Nat} (hnamed : writesOverflow i = true) (h : sbc m len s = .next t) :
    ChangesNamed i s t := by
  obtain ⟨-, rfl⟩ | ⟨-, rfl⟩ := sbc_next h
  · exact .ofOverflow rfl rfl rfl hnamed
  · exact .ofOverflow rfl rfl rfl hnamed

/-- A branch changes `pc`, taken or not. -/
theorem branch_changesNamed {cond : State → Bool} {len : Nat} {rel : Byte} (h : branch cond len rel s = .next t) :
    ChangesNamed i s t := by
  rw [branch_next h]
  split
  · exact .ofNone rfl rfl rfl rfl
  · exact .ofNone rfl rfl rfl rfl

/-- RMB and SMB change a byte of memory. -/
theorem resetBit_changesNamed {k : Nat} {zp : Byte} (h : resetBit k zp s = .next t) : ChangesNamed i s t := by
  rw [changeBits_next h]
  exact .ofNone rfl rfl rfl rfl

theorem setBit_changesNamed {k : Nat} {zp : Byte} (h : setBit k zp s = .next t) : ChangesNamed i s t := by
  rw [changeBits_next h]
  exact .ofNone rfl rfl rfl rfl

/-- What an instruction answers, by its shared meaning. -/
theorem exec_changesNamed (h : exec i s = .next t) : ChangesNamed i s t := by
  cases i
  case oraIndX | oraZp | oraImm | oraAbs | oraIndY | oraInd | oraZpX | oraAbsY | incAcc | oraAbsX | andIndX |
      andZp | andImm | andAbs | andIndY | andInd | andZpX | andAbsY | decAcc | andAbsX | eorIndX | eorZp |
      eorImm | eorAbs | eorIndY | eorInd | eorZpX | eorAbsY | eorAbsX | txa | tya | ldaIndX | ldaZp | ldaImm |
      ldaAbs | ldaIndY | ldaInd | ldaZpX | ldaAbsY | ldaAbsX =>
    obtain rfl := lda_next h
    exact .ofNone rfl rfl rfl rfl
  case ldxImm | ldxZp | tax | ldxAbs | ldxZpY | tsx | ldxAbsY | dex | inx =>
    obtain rfl := ldx_next h
    exact .ofNone rfl rfl rfl rfl
  case dey | ldyImm | ldyZp | tay | ldyAbs | ldyZpX | ldyAbsX | iny =>
    obtain rfl := ldy_next h
    exact .ofNone rfl rfl rfl rfl
  case stzZp | stzZpX | staIndX | styZp | staZp | stxZp | styAbs | staAbs | stxAbs | staIndY | staInd |
      styZpX | staZpX | stxZpY | staAbsY | stzAbs | staAbsX | stzAbsX =>
    obtain rfl := store_next h
    exact .ofNone rfl rfl rfl rfl
  case cpyImm | cmpIndX | cpyZp | cmpZp | cmpImm | cpyAbs | cmpAbs | cmpIndY | cmpInd | cmpZpX | cmpAbsY |
      cmpAbsX | cpxImm | cpxZp | cpxAbs =>
    obtain rfl := compare_next h
    exact .ofNone rfl rfl rfl rfl
  case decZp | decAbs | decZpX | decAbsX | incZp | incAbs | incZpX | incAbsX =>
    obtain rfl := countMem_next h
    exact .ofNone rfl rfl rfl rfl
  case tsbZp | tsbAbs =>
    obtain rfl := testMem_next (f := fun m => m ||| s.a) h
    exact .ofNone rfl rfl rfl rfl
  case trbZp | trbAbs =>
    obtain rfl := testMem_next (f := fun m => m &&& ~~~s.a) h
    exact .ofNone rfl rfl rfl rfl
  case aslZp | aslAbs | aslZpX | aslAbsX | rolZp | rolAbs | rolZpX | rolAbsX | lsrZp | lsrAbs | lsrZpX |
      lsrAbsX | rorZp | rorAbs | rorZpX | rorAbsX =>
    obtain rfl := shiftMem_next h
    exact .ofNone rfl rfl rfl rfl
  case aslAcc | rolAcc | lsrAcc | rorAcc =>
    obtain rfl := shiftAcc_next h
    exact .ofNone rfl rfl rfl rfl
  case rmb0 | rmb1 | rmb2 | rmb3 | rmb4 | rmb5 | rmb6 | rmb7 => exact resetBit_changesNamed h
  case smb0 | smb1 | smb2 | smb3 | smb4 | smb5 | smb6 | smb7 => exact setBit_changesNamed h
  case bitImm =>
    obtain rfl := bitImm_next h
    exact .ofNone rfl rfl rfl rfl
  case bbr0 | bpl | bbr1 | bbr2 | bmi | bbr3 | bbr4 | bvc | bbr5 | bbr6 | bvs | bbr7 | bra | bbs0 | bcc |
      bbs1 | bbs2 | bcs | bbs3 | bbs4 | bne | bbs5 | bbs6 | beq | bbs7 =>
    exact branch_changesNamed h
  case jmpAbs | jmpInd | jmpIndX =>
    obtain rfl := jump_next h
    exact .ofNone rfl rfl rfl rfl
  case clc | sec | nop =>
    obtain rfl := setP_next h
    exact .ofNone rfl rfl rfl rfl
  case rsv02 | rsv03 | rsv0B | rsv13 | rsv1B | rsv22 | rsv23 | rsv2B | rsv33 | rsv3B | rsv42 | rsv43 | rsv44 |
      rsv4B | rsv53 | rsv54 | rsv5B | rsv5C | rsv62 | rsv63 | rsv6B | rsv73 | rsv7B | rsv82 | rsv83 | rsv8B |
      rsv93 | rsv9B | rsvA3 | rsvAB | rsvB3 | rsvBB | rsvC2 | rsvC3 | rsvCB | rsvD3 | rsvD4 | rsvDB | rsvDC |
      rsvE2 | rsvE3 | rsvEB | rsvF3 | rsvF4 | rsvFB | rsvFC =>
    obtain rfl := reserved_next h
    exact .ofNone rfl rfl rfl rfl
  case adcIndX | adcZp | adcImm | adcAbs | adcIndY | adcInd | adcZpX | adcAbsY | adcAbsX => exact adc_changesNamed rfl h
  case sbcIndX | sbcZp | sbcImm | sbcAbs | sbcIndY | sbcInd | sbcZpX | sbcAbsY | sbcAbsX => exact sbc_changesNamed rfl h
  case bitZp | bitAbs | bitZpX | bitAbsX =>
    obtain rfl := bitMem_next h
    exact .ofOverflow rfl rfl rfl rfl
  case clv =>
    obtain rfl := setP_next h
    exact .ofOverflow rfl rfl rfl rfl
  case txs =>
    obtain rfl := txs_next h
    exact .ofStack rfl rfl rfl (.inl (by decide))
  case php | pha | phy | phx =>
    obtain rfl := pushByte_next h
    exact .ofStack rfl rfl rfl (.inl (by decide))
  case pla =>
    obtain rfl := lda_next h
    exact .ofStack rfl rfl rfl (.inl (by decide))
  case plx =>
    obtain rfl := ldx_next h
    exact .ofStack rfl rfl rfl (.inl (by decide))
  case ply =>
    obtain rfl := ldy_next h
    exact .ofStack rfl rfl rfl (.inl (by decide))
  case jsr w =>
    obtain rfl := callSubroutine_next h
    exact .ofStack rfl rfl rfl (.inr ⟨w, rfl⟩)
  case rts =>
    obtain rfl := returnFromSubroutine_next h
    exact .ofStack rfl rfl rfl (.inl (by decide))
  case sed | cld =>
    obtain rfl := setP_next h
    exact ⟨fun _ => by decide, fun h => absurd rfl h, fun h => absurd rfl h, fun h => absurd rfl h⟩
  case sei | cli =>
    obtain rfl := setP_next h
    exact ⟨fun h => absurd rfl h, fun _ => by decide, fun h => absurd rfl h, fun h => absurd rfl h⟩
  case brk =>
    obtain rfl := breakEntry_next h
    exact ⟨fun _ => by decide, fun _ => by decide, fun h => absurd rfl h, fun _ => .inl (by decide)⟩
  case plp | rti => exact ⟨fun _ => by decide, fun _ => by decide, fun _ => rfl, fun _ => .inl (by decide)⟩

end

end Sys2Proof.Machine

namespace Sys2Proof.Claims

open Sys2Proof.Machine

/-- Settles O59. -/
theorem whoWrites : Obligations.WhoWrites := by
  intro i s t h
  obtain ⟨hdecimal, hinterrupt, hoverflow, hstack⟩ := exec_changesNamed h
  exact ⟨hdecimal, hinterrupt, hoverflow, hstack⟩

end Sys2Proof.Claims

/-! PROOFS. The pins, reset and the NMI entry. -/

namespace Sys2Proof.Machine

open Sys2Proof.Claims

variable {s : State}

/-! Pin events -/

/-- A level that BE has changes nothing on a device without the pin (R317). -/
theorem State.onPin_be (s : State) (high : Bool) :
    s.onPin (.be high) = .ok { s with
      pins := { s.pins with be := if Config.device.hasBusEnable then high else s.pins.be } } := by
  rw [State.onPin]
  split <;> rfl

/-- A level that RES has already changes nothing. -/
theorem State.onPin_res_same {high : Bool} (h : s.pins.res = high) : s.onPin (.res high) = .ok s := by
  simp [State.onPin, h]

/-- RES going low drops what was known of an earlier pulse (R350). -/
theorem State.onPin_res_falls (h : s.pins.res = true) :
    s.onPin (.res false) =
      .ok { s with pins := { s.pins with res := false }, resHeld := false, resPending := false } := by
  simp [State.onPin, Pins.set, h]

/-- RES going high after a step of low requests the reset sequence (R350). -/
theorem State.onPin_res_rises (h : s.pins.res = false) (hheld : s.resHeld = true) :
    s.onPin (.res true) =
      .ok { s with pins := { s.pins with res := true }, resHeld := false, resPending := true } := by
  simp [State.onPin, Pins.set, h, hheld]

/-! A RES pulse -/

/-- RES low holds the CPU whatever else there is (R350). -/
theorem State.proceed_of_res_low (h : s.pins.res = false) (b : Boundary) : s.proceed b = .next s.holdReset := by
  have ha : s.activity b = .held := by simp [State.activity, h]
  rw [State.proceed, ha]

/-- A step at whose boundary one pin event happens. -/
theorem step_of_event {t : State} {e : PinEvent} {rest : List Boundary}
    (hs : s.schedule = { Boundary.quiet with events := [e] } :: rest) (he : s.begin.onPin e = .ok t) :
    step s = t.proceed { Boundary.quiet with events := [e] } := by
  have hb : s.boundary = { Boundary.quiet with events := [e] } := by rw [State.boundary, hs]; rfl
  have hat : s.atBoundary = .ok t := by
    rw [State.atBoundary, hb, State.onPins, he]
    rfl
  rw [step, hat, hb]

/-- The state such a step begins in. -/
theorem State.begin_of_event {e : PinEvent} {rest : List Boundary}
    (hs : s.schedule = { Boundary.quiet with events := [e] } :: rest) :
    s.begin = { s with schedule := rest, dma := [], bus := [], draws := s.draws + 1 } := by
  simp [State.begin, State.boundary, hs, Boundary.quiet]

/-- The first step of a RES pulse, with the pins inactive before it: RES is low and has been for a step (R350). -/
theorem step_of_res_falls {rest : List Boundary} (hpins : s.pins = Pins.inactive)
    (hs : s.schedule = { Boundary.quiet with events := [.res false] } :: rest) :
    step s = .next { s with
      pins := { Pins.inactive with res := false }, resHeld := true, resPending := false
      schedule := rest, dma := [], bus := [], draws := s.draws + 1 } := by
  have hres : s.begin.pins.res = true := congrArg Pins.res hpins
  rw [step_of_event hs (State.onPin_res_falls hres), State.proceed_of_res_low rfl, State.holdReset,
    State.begin_of_event hs, State.finish_of_nil rfl, hpins]
  rfl

/-- The second step: RES goes high after it, and the reset sequence runs (R350, R351). -/
theorem step_of_res_rises {rest : List Boundary} (hpins : s.pins = { Pins.inactive with res := false })
    (hheld : s.resHeld = true) (hs : s.schedule = { Boundary.quiet with events := [.res true] } :: rest) :
    step s = .next ({ s with
      pins := Pins.inactive, resHeld := false, resPending := true
      schedule := rest, dma := [], bus := [], draws := s.draws + 1 } : State).resetSequence := by
  have hres : s.begin.pins.res = false := congrArg Pins.res hpins
  rw [step_of_event hs (State.onPin_res_rises hres hheld), State.begin_of_event hs, hpins, State.proceed,
    State.activity_of_resPending rfl rfl rfl rfl rfl]
  exact congrArg Host.Outcome.next (State.finish_of_nil rfl)

/-! The entry of a hardware interrupt -/

/-- All of the entry but the memory it leaves, with no other bus master at work: the three writes, I set and D clear,
the vector read after the writes, seven cycles (R302, R303, R305, R325). -/
theorem State.takeInterrupt_eq_of_nil (hd : s.dma = []) (vector : Word) :
    s.takeInterrupt vector = { s with
      mem := (s.takeInterrupt vector).mem, dma := [], sp := s.sp - 3, p := { s.p with i := true, d := false }
      pc := wordOf ((s.takeInterrupt vector).readAt vectorPlace vector)
        ((s.takeInterrupt vector).readAt (vectorPlace + 1) (vector + 1))
      irqShadow := false, tcu := 7, cycles := s.cycles + 7
      bus := s.fillCycles Config.dummyReads none 0 (2 * endPlace) 7 (s.bus ++ entryWrites s false s.pc ++
        [Claims.readAccess vectorPlace vector ((s.takeInterrupt vector).readAt vectorPlace vector),
         Claims.readAccess (vectorPlace + 1) (vector + 1)
          ((s.takeInterrupt vector).readAt (vectorPlace + 1) (vector + 1))]) } := by
  have hdma := State.enterInterrupt_dma_nil hd vector false s.pc
  have hframe := s.enterInterrupt_eq vector false s.pc
  rw [hdma] at hframe
  rw [← State.enterInterrupt_bus s vector]
  exact congrArg (fun u : State => { u with
    irqShadow := false, tcu := 7, cycles := s.cycles + 7, bus := (s.takeInterrupt vector).bus }) hframe

theorem State.takeInterrupt_dma_nil (hd : s.dma = []) (vector : Word) : (s.takeInterrupt vector).dma = [] :=
  State.enterInterrupt_dma_nil hd vector false s.pc

/-- The memory after the entry, as the statements have it (R62, R305). -/
theorem State.takeInterrupt_entryBytes (hd : s.dma = []) (vector : Word) :
    EntryBytes s (s.takeInterrupt vector) false s.pc := by
  intro addr
  have hread : (s.takeInterrupt vector).read addr = (s.enterInterrupt vector false s.pc).read addr := rfl
  have hsp : s.sp - 1 - 1 = s.sp - 2 := by bv_omega
  have h01 : stackAddr s.sp ≠ stackAddr (s.sp - 1) := fun h => by have := stackAddr_inj.1 h; bv_omega
  have h02 : stackAddr s.sp ≠ stackAddr (s.sp - 2) := fun h => by have := stackAddr_inj.1 h; bv_omega
  have h12 : stackAddr (s.sp - 1) ≠ stackAddr (s.sp - 2) := fun h => by have := stackAddr_inj.1 h; bv_omega
  rw [hread, State.read_enterInterrupt hd, hsp]
  by_cases hram : kindAt s.platform addr = .ram
  · simp only [hram, and_true, ne_eq, not_true_eq_false, if_false, eq_comm (b := addr)]
    by_cases htop : addr = stackAddr s.sp
    · subst htop
      simp only [if_neg h01, if_neg h02, if_true]
    · by_cases hnext : addr = stackAddr (s.sp - 1)
      · subst hnext
        simp only [if_neg h12, if_neg h01.symm, if_true]
      · simp only [if_neg htop, if_neg hnext]
  · simp only [hram, and_false, ne_eq, not_false_eq_true, if_false, if_true]

/-- Nothing holds the CPU and an NMI edge is remembered, with no IRQ to compete with it: it is taken (R303, R308). -/
theorem State.activity_of_nmi (hr : Ready s) (hnmi : s.nmiPending = true) (hirq : s.pins.irq = true ∨ s.p.i = true)
    (b : Boundary) : s.activity b = .nmi := by
  have hnone : s.irqRecognized b = false := by
    rcases hirq with h | h <;> simp [State.irqRecognized, h]
  simp [State.activity, hr.res_high, hr.clock_runs, hr.rdy_high, hr.be_high, hr.no_reset, hr.state_kept, hnmi, hnone]

/-- The step is then the NMI entry. -/
theorem step_of_nmi (hl : Live s) (hnmi : s.nmiPending = true) (hirq : s.pins.irq = true ∨ s.p.i = true) :
    step s = .next s.begin.takeNmi := by
  have ha : s.begin.activity Boundary.quiet = .nmi :=
    State.activity_of_nmi (State.begin_ready hl.toReady) (s := s.begin) hnmi hirq _
  have hbegin : s.begin.dma = [] := by rw [State.begin_of_nil hl.schedule_nil]
  have hdma : s.begin.takeNmi.dma = [] :=
    State.takeInterrupt_dma_nil (s := { s.begin with nmiPending := false }) hbegin nmiVector
  rw [step_of_nil hl.schedule_nil, State.proceed, ha]
  exact congrArg Host.Outcome.next (State.finish_of_nil hdma)

end Sys2Proof.Machine

namespace Sys2Proof.Claims

open Sys2Proof.Machine

/-- Settles O8. -/
theorem invAtReset : Obligations.InvAtReset :=
  ⟨reset_mem_wf, nofun, nofun, nofun, fun _ => Nat.le_refl 0, rfl⟩

/-- Settles O9. -/
theorem resetState : Obligations.ResetState := ⟨by decide, rfl, rfl, rfl, rfl⟩

/-- Settles O45. -/
theorem pinEvents : Obligations.PinEvents := by
  intro s high addr v
  exact ⟨rfl, rfl, rfl, rfl, State.onPin_be s high, State.onPin_res_same, State.onPin_res_falls,
    State.onPin_res_rises, rfl, rfl, ⟨_, rfl, rfl⟩, rfl⟩

/-- Settles O48, by its two steps. -/
theorem resetPulseRestarts : Obligations.ResetPulseRestarts := by
  intro s hpins hs
  have hlow := step_of_res_falls hpins hs
  have hrun := (core_run_succ hlow 1).trans (core_run_succ (step_of_res_rises rfl rfl rfl) 0)
  exact ⟨_, hrun, rfl, rfl, rfl, rfl, fun _ => rfl, ⟨rfl, rfl, rfl, rfl, rfl⟩⟩

/-- Settles O42. -/
theorem nmiTaken : Obligations.NmiTaken := by
  intro s hl hnmi hirq
  have hbegin := State.begin_of_nil hl.schedule_nil
  let u : State := { s.begin with nmiPending := false }
  have hdma : u.dma = [] := congrArg State.dma hbegin
  have hsame : s.begin.SameBus u := ⟨rfl, rfl, rfl, rfl⟩
  refine ⟨u.takeInterrupt nmiVector, step_of_nmi hl hnmi hirq, ?_, ?_⟩
  · have heq := State.takeInterrupt_eq_of_nil hdma nmiVector
    have hschedule : u.schedule = s.schedule := (congrArg State.schedule hbegin :)
    rw [hsame.fillCycles, hschedule] at heq
    exact heq
  · exact State.takeInterrupt_entryBytes hdma nmiVector

end Sys2Proof.Claims

/-! PROOFS. An SO or RES edge within a step: what the CPU does there is the same with the edge, which then changes the
state it leaves (R315, R350). -/

namespace Sys2Proof.Machine

open Sys2Proof.Claims

variable {s t : State}

/-! What the CPU does in a step -/

/-- The cells of the op-code map and the statements name the same rules as writing V (R37). -/
theorem info_writesV (i : Instr) : (info i).writesV = writesOverflow i := by
  cases i <;> rfl

/-- At a boundary that defers nothing, the CPU gets from `s` to `t` by an interrupt entry or an instruction, up to the
edges within the step; `writesV` says whether that writes V. -/
structure State.Performs (s t : State) (writesV : Bool) : Prop where
  proceed : ∀ b : Boundary, b.deferIrq = false → s.proceed b = .next (State.within b writesV s t)
  writes_overflow : writesV = true → NoInterrupt s ∧ writesOverflow s.fetch = true
  dma_nil : t.dma = []
  pins : t.pins = s.pins
  schedule : t.schedule = s.schedule
  state_kept : t.stateLost = s.stateLost
  platform : t.platform = s.platform
  bus_length : Config.dummyReads = true → t.bus.length = t.tcu

/-- With nothing to hold the CPU, an interrupt is taken or none is due. -/
theorem State.activity_cases (hr : Ready s) :
    (∀ b : Boundary, b.deferIrq = false → s.activity b = .nmi) ∨
    (∀ b : Boundary, b.deferIrq = false → s.activity b = .irq) ∨ NoInterrupt s := by
  by_cases hirq : s.pins.irq = true ∨ s.p.i = true
  · cases hnmi : s.nmiPending with
    | true => exact .inl fun b _ => State.activity_of_nmi hr hnmi hirq b
    | false => exact .inr (.inr ⟨hnmi, hirq⟩)
  · have hdue : ∀ b : Boundary, b.deferIrq = false → s.irqRecognized b = true := by
      intro b hb
      rw [not_or, Bool.not_eq_true, Bool.not_eq_true] at hirq
      simp [State.irqRecognized, hirq.1, hirq.2, hb]
    have hactivity (b : Boundary) (hb : b.deferIrq = false) : s.activity b =
        if s.nmiPending then (if Config.nmiBeforeIrq then .nmi else .irq) else .irq := by
      simp [State.activity, hr.res_high, hr.clock_runs, hr.rdy_high, hr.be_high, hr.no_reset, hr.state_kept, hdue b hb]
      cases s.nmiPending <;> rfl
    cases hnmi : s.nmiPending with
    | false => exact .inr (.inl fun b hb => by rw [hactivity b hb, hnmi]; rfl)
    | true =>
      cases horder : Config.nmiBeforeIrq with
      | true => exact .inl fun b hb => by rw [hactivity b hb, hnmi, horder]; rfl
      | false => exact .inr (.inl fun b hb => by rw [hactivity b hb, hnmi, horder]; rfl)

/-- With discarded reads recorded, an interrupt entry has an access for each of its seven cycles (R61, R325). -/
theorem State.takeInterrupt_bus_length (hb : s.bus = []) (vector : Word) (hdummy : Config.dummyReads = true) :
    (s.takeInterrupt vector).bus.length = 7 := by
  have hlisted : ((s.enterInterrupt vector false s.pc).bus ++
      (s.enterInterrupt vector false s.pc).readWordAccesses vectorPlace vector).length ≤ 7 := by
    rw [State.enterInterrupt_bus, hb]
    exact Nat.le_of_ble_eq_true rfl
  exact (s.fillCycles_listed Config.dummyReads none (Nat.zero_le _) 7 _).2.1 hdummy hlisted

/-- An interrupt entry writes no V. -/
theorem State.performs_takeInterrupt (hd : s.dma = []) (hb : s.bus = []) (nmi : Bool) (vector : Word)
    (h : ∀ b : Boundary, b.deferIrq = false →
      s.proceed b = .next (State.within b false s (({ s with nmiPending := nmi } : State).takeInterrupt vector))) :
    s.Performs (({ s with nmiPending := nmi } : State).takeInterrupt vector) false := by
  let u : State := { s with nmiPending := nmi }
  have hframe := State.takeInterrupt_eq_of_nil (s := u) hd vector
  exact {
    proceed := h
    writes_overflow := nofun
    dma_nil := State.takeInterrupt_dma_nil (s := u) hd vector
    pins := (congrArg State.pins hframe :)
    schedule := (congrArg State.schedule hframe :)
    state_kept := (congrArg State.stateLost hframe :)
    platform := (congrArg State.platform hframe :)
    bus_length := State.takeInterrupt_bus_length (s := u) hb vector }

/-- An instruction writes V where its rule does. -/
theorem State.performs_exec (hr : Ready s) (hn : NoInterrupt s) (hd : s.dma = []) (hb : s.bus = [])
    (ht : exec s.fetch s = .next t) : s.Performs (State.record s.fetch s t) (info s.fetch).writesV := by
  obtain ⟨hframe, -, hdma⟩ := (exec_effect ht).footprint
  refine ⟨fun b _ => State.proceed_of_execute (State.activity_of_ready hr hn b) ht, fun hv => ⟨hn, ?_⟩, ?_, ?_, ?_, ?_,
    ?_, fun hdummy => ?_⟩
  · rwa [info_writesV] at hv
  · rw [hd] at hdma
    exact List.suffix_nil.1 hdma
  · exact (congrArg State.pins hframe :)
  · exact (congrArg State.schedule hframe :)
  · exact (congrArg State.stateLost hframe :)
  · exact (congrArg State.platform hframe :)
  · exact (s.fillCycles_listed Config.dummyReads (unreadAddr s.fetch s) (one_le_lastMoment s.fetch)
      (cyclesOf s.fetch s) _).2.1 hdummy (listedAccesses_length_le hb ht)

/-- With nothing to hold it, the CPU performs something. -/
theorem State.exists_performs (hr : Ready s) (hd : s.dma = []) (hb : s.bus = []) :
    ∃ t writesV, s.Performs t writesV := by
  rcases State.activity_cases hr with hnmi | hirq | hn
  · refine ⟨_, _, State.performs_takeInterrupt hd hb false nmiVector fun b hdefer => ?_⟩
    rw [State.proceed, hnmi b hdefer]
    rfl
  · refine ⟨_, _, State.performs_takeInterrupt hd hb s.nmiPending irqVector fun b hdefer => ?_⟩
    rw [State.proceed, hirq b hdefer]
    rfl
  · obtain ⟨t, ht, -⟩ := exec_answers s.fetch s
    exact ⟨_, _, State.performs_exec hr hn hd hb ht⟩

/-! The edges -/

/-- SO changes its own level and V at most (R315). -/
theorem State.soFalls_eq (writesV : Bool) (t : State) :
    t.soFalls writesV = { t with
      pins := { t.pins with so := false }, p := { t.p with v := (t.soFalls writesV).p.v } } := by
  unfold State.soFalls
  cases hso : t.pins.so with
  | true => rfl
  | false =>
    have hpins : { t.pins with so := false } = t.pins := by rw [← hso]
    simp [hpins]

/-- A pin that is low already has no negative edge (R315). -/
theorem State.soFalls_of_low (writesV : Bool) (h : t.pins.so = false) : t.soFalls writesV = t := by
  simp [State.soFalls, h]

/-- The edge sets V if nothing else writes it (R315). -/
theorem State.soFalls_overflow (h : t.pins.so = true) : (t.soFalls false).p.v = true := by
  simp [State.soFalls, h]

/-- In addresses and directions, the record of a step cut short is the beginning of the whole step's (R350). -/
theorem State.resFalls_bus_prefix (s t : State) :
    ((State.resFalls s t).bus.map fun access => (access.addr, access.write)) <+:
      (t.bus.map fun access => (access.addr, access.write)) := by
  have hcut (draw : Nat) (access : BusAccess) :
      ((access.cut draw).addr, (access.cut draw).write) = (access.addr, access.write) := by
    unfold BusAccess.cut
    split <;> rfl
  simp only [State.resFalls, List.map_map, Function.comp_def, hcut]
  exact (List.take_prefix _ _).map _

/-- RES cuts a step short at one of its cycles (R350). -/
theorem State.resFalls_tcu_le (s t : State) : (State.resFalls s t).tcu ≤ t.tcu :=
  Nat.le_of_lt_succ (Nat.mod_lt _ (Nat.succ_pos _))

/-- With discarded reads recorded, each of the cycles taken has its access; without them there are no more accesses than
cycles (R61, R350). -/
theorem State.resFalls_bus_length (s : State) (hlen : Config.dummyReads = true → t.bus.length = t.tcu) :
    if Config.dummyReads then (State.resFalls s t).bus.length = (State.resFalls s t).tcu ∧ t.bus.length = t.tcu
    else (State.resFalls s t).bus.length ≤ (State.resFalls s t).tcu := by
  have hle := State.resFalls_tcu_le s t
  split
  · next hdummy =>
    refine ⟨?_, hlen hdummy⟩
    simp only [State.resFalls, hdummy, if_true, List.length_map, List.length_take, hlen hdummy] at hle ⊢
    exact Nat.min_eq_left hle
  · next hdummy =>
    simp only [State.resFalls, hdummy, Bool.false_eq_true, if_false, List.length_map, List.length_take]
    exact (Nat.min_le_left _ _).trans (Nat.min_le_left _ _)

/-- What was not being written is as it was before the step (R350). -/
theorem State.resFalls_read (hd : s.dma = []) {addr : Word}
    (h : ∀ access ∈ t.bus, access.write = true → access.addr ≠ addr) :
    (State.resFalls s t).read addr = s.read addr := by
  have hread := Memory.read_scramble (m := s.finish.mem) s.platform t.draws t.bus addr h
  rw [State.finish_of_nil hd] at hread
  rw [State.read, State.resFalls, State.finish_of_nil hd]
  exact hread

/-! The step with an edge -/

theorem State.within_soEdge (writesV : Bool) (s t : State) :
    State.within soEdge writesV s t = t.finish.soFalls writesV := rfl

theorem State.within_resEdge (writesV : Bool) (s t : State) :
    State.within resEdge writesV s t = State.resFalls s t.finish := rfl

/-- A boundary without events and without other masters' writes does not change where the step begins. -/
theorem step_of_boundary (hs : s.schedule = []) {b : Boundary} (hevents : b.events = [])
    (hwrites : b.writesWithin = []) :
    step { s with schedule := [b] } = s.begin.proceed b := by
  have hbegin : ({ s with schedule := [b] } : State).begin = s.begin := by
    simp [State.begin, State.boundary, hs, hwrites, Boundary.quiet]
  have hat : ({ s with schedule := [b] } : State).atBoundary = .ok s.begin := by
    rw [State.atBoundary, hbegin]
    exact congrArg s.begin.onPins hevents
  rw [step, hat]
  rfl

end Sys2Proof.Machine

namespace Sys2Proof.Claims

open Sys2Proof.Machine

/-- Settles O49: the step with an edge performs what the step without it does, and the edge then changes the result. -/
theorem edgesWithinStep : Obligations.EdgesWithinStep := by
  intro s t hl ht
  have hbegin := State.begin_of_nil hl.schedule_nil
  have hdma : s.begin.dma = [] := (congrArg State.dma hbegin :)
  have hbus : s.begin.bus = [] := (congrArg State.bus hbegin :)
  obtain ⟨u, writesV, hp⟩ := State.exists_performs (State.begin_ready hl.toReady) hdma hbus
  have hfinish : u.finish = u := State.finish_of_nil hp.dma_nil
  obtain rfl : u = t := by
    rw [step_of_nil hl.schedule_nil, hp.proceed _ rfl, State.within_quiet, hfinish] at ht
    injection ht
  have hso : step { s with schedule := [soEdge] } = .next (u.soFalls writesV) := by
    rw [step_of_boundary hl.schedule_nil rfl rfl, hp.proceed _ rfl, State.within_soEdge, hfinish]
  have hres : step { s with schedule := [resEdge] } = .next (State.resFalls s.begin u) := by
    rw [step_of_boundary hl.schedule_nil rfl rfl, hp.proceed _ rfl, State.within_resEdge, hfinish]
  have hschedule : u.schedule = [] := hp.schedule.trans ((congrArg State.schedule hbegin :).trans hl.schedule_nil)
  refine ⟨⟨_, hso, State.soFalls_eq writesV u, fun hlow => ?_, fun hhigh hwrites => ?_⟩, _, hres, rfl, rfl, rfl,
    hschedule, hp.state_kept.trans hl.state_kept, hp.platform, fun addr haddr => State.resFalls_read hdma haddr,
    State.resFalls_bus_prefix _ _, rfl, State.resFalls_tcu_le _ _, State.resFalls_bus_length _ hp.bus_length⟩
  · exact State.soFalls_of_low writesV (hp.pins ▸ hlow)
  · have hnone : writesV = false := by
      by_contra hv
      obtain ⟨hnone, hwritten⟩ := hp.writes_overflow (by simpa using hv)
      rw [hwrites ⟨hnone.no_nmi, hnone.no_irq⟩] at hwritten
      cases hwritten
    rw [hnone]
    exact State.soFalls_overflow (hp.pins ▸ hhigh)

end Sys2Proof.Claims

/-! PROOFS. The instructions that write one byte of memory, what each makes of it, and the jumps. -/

namespace Sys2Proof.Machine

open Sys2Proof.Claims

variable {s : State}

/-! One byte stored -/

/-- A write at a place of the step, with the flags and `pc` an instruction gives, stores that byte alone (R62, R77). -/
theorem State.writeAt_stored (s : State) (place : Nat) (ml : Bool) (ea : Word) (v : Byte) (p : Flags) (len : Nat) :
    Stored s { (s.writeAt place ml ea v).advance len with p := p } place ml ea v p len := by
  refine ⟨?_, fun addr => ?_⟩
  · rw [← pc_add_eq_pcAfter]
    rfl
  · simp only [eq_comm (a := addr)]
    exact s.read_writeAt place ml ea v addr

theorem store_stored (v : Byte) (ea : Word) (len : Nat) (s : State) :
    ∃ t, store v ea len s = .next t ∧ Stored s t dataPlace false ea v s.p len :=
  ⟨_, rfl, s.writeAt_stored dataPlace false ea v s.p len⟩

theorem countMem_stored (f : Byte → Byte) (ea : Word) (len : Nat) (s : State) :
    ∃ t, countMem f ea len s = .next t ∧
      Stored s t writeBackPlace true ea (f (s.datum ea)) (nz s.p (f (s.datum ea))) len := by
  refine ⟨_, rfl, ?_⟩
  rw [← Flags.setNZ_eq_nz]
  exact s.writeAt_stored ..

theorem testMem_stored (f : Byte → Byte) (ea : Word) (len : Nat) (s : State) :
    ∃ t, testMem f ea len s = .next t ∧
      Stored s t writeBackPlace true ea (f (s.datum ea)) { s.p with z := decide (s.a &&& s.datum ea = 0) } len :=
  ⟨_, rfl, s.writeAt_stored ..⟩

/-- N, Z and C after a shift or rotate, as the statements have them (R194 to R197). -/
theorem Flags.ofShift_eq (p : Flags) (r : Shifted) : p.ofShift r = { nz p r.result with c := r.carry } := by
  rw [Flags.ofShift, Flags.setNZ_eq_nz]

theorem shiftMem_stored (f : Byte → Shifted) (ea : Word) (len : Nat) (s : State) :
    ∃ t, shiftMem f ea len s = .next t ∧
      Stored s t writeBackPlace true ea (f (s.datum ea)).result
        { nz s.p (f (s.datum ea)).result with c := (f (s.datum ea)).carry } len := by
  refine ⟨_, rfl, ?_⟩
  rw [← Flags.ofShift_eq]
  exact s.writeAt_stored ..

theorem shiftAcc_eq (f : Byte → Shifted) (s : State) :
    shiftAcc f s = .next { s with
      a := (f s.a).result, p := { nz s.p (f s.a).result with c := (f s.a).carry }, pc := pcAfter s 1 } := by
  rw [shiftAcc, Flags.ofShift_eq, State.advance, pc_add_eq_pcAfter]

/-! The results as numbers -/

theorem increment_toNat (v : Byte) : (increment v).toNat = (v.toNat + 1) % 256 := BitVec.toNat_add v 1

theorem decrement_toNat (v : Byte) : (decrement v).toNat = (v.toNat + 255) % 256 := by
  rw [decrement, BitVec.toNat_sub, Nat.add_comm]
  rfl

theorem increment_eq_ofNat (v : Byte) : increment v = BitVec.ofNat 8 ((v.toNat + 1) % 256) := by
  rw [← increment_toNat, BitVec.ofNat_toNat, BitVec.setWidth_eq]

theorem decrement_eq_ofNat (v : Byte) : decrement v = BitVec.ofNat 8 ((v.toNat + 255) % 256) := by
  rw [← decrement_toNat, BitVec.ofNat_toNat, BitVec.setWidth_eq]

theorem shiftLeft_toNat (v : Byte) : (shiftLeft v).result.toNat = 2 * v.toNat % 256 := by
  rw [shiftLeft, BitVec.toNat_shiftLeft, Nat.shiftLeft_eq, Nat.mul_comm]

theorem shiftRight_toNat (v : Byte) : (shiftRight v).result.toNat = v.toNat / 2 := by
  rw [shiftRight, BitVec.toNat_ushiftRight, Nat.shiftRight_eq_div_pow]

/-- The old C in the bit that ROL sets free (R196). -/
theorem rotateLeft_toNat (c : Bool) (v : Byte) :
    (rotateLeft c v).result.toNat = 2 * v.toNat % 256 + c.toNat := by
  revert c v
  decide

/-- The old C in the bit that ROR sets free (R197). -/
theorem rotateRight_toNat (c : Bool) (v : Byte) :
    (rotateRight c v).result.toNat = v.toNat / 2 + 128 * c.toNat := by
  revert c v
  decide

theorem shiftLeft_carry (v : Byte) : (shiftLeft v).carry = v.getLsbD 7 := BitVec.msb_eq_getLsbD_last v

theorem rotateLeft_carry (c : Bool) (v : Byte) : (rotateLeft c v).carry = v.getLsbD 7 := BitVec.msb_eq_getLsbD_last v

/-- TRB clears the bits of `A` (R198). -/
theorem getLsbD_and_not (a m : Byte) {k : Nat} (hk : k < 8) :
    (m &&& ~~~a).getLsbD k = if a.getLsbD k then false else m.getLsbD k := by
  rw [BitVec.getLsbD_and, BitVec.getLsbD_not]
  cases a.getLsbD k <;> simp [hk]

/-- TSB sets the bits of `A` (R199). -/
theorem getLsbD_or_ite (a m : Byte) (k : Nat) :
    (m ||| a).getLsbD k = if a.getLsbD k then true else m.getLsbD k := by
  rw [BitVec.getLsbD_or]
  cases a.getLsbD k <;> simp

/-! Addresses of the jumps -/

theorem word_ofNat_succ (n : Nat) : BitVec.ofNat 16 (n + 1) = BitVec.ofNat 16 n + 1 := BitVec.ofNat_add n 1

/-- The word at an address, as the statements have it (R64). -/
theorem State.readWord_eq_ofNat (s : State) (place : Nat) (addr : Word) :
    s.readWord place addr =
      BitVec.ofNat 16 ((s.readAt place addr).toNat + 256 * (s.readAt (place + 1) (addr + 1)).toNat) := by
  apply BitVec.eq_of_toNat_eq
  rw [State.readWord, wordOf_toNat, BitVec.toNat_ofNat]
  omega

/-- The indexed address, as the statements have it (R111, R113). -/
theorem eaAbsX_eq_ofNat (w : Word) (s : State) : eaAbsX w s = BitVec.ofNat 16 (w.toNat + s.x.toNat) := by
  apply BitVec.eq_of_toNat_eq
  simp [eaAbsX]

end Sys2Proof.Machine

namespace Sys2Proof.Claims

open Sys2Proof.Machine

/-! Each form is a shared meaning of its effective address -/

section Forms

variable {s : State} {b : Byte} {w : Word} {f : StoreForm}

theorem exec_staForms (hf : f ∈ staForms s b w) : exec f.instr s = store s.a f.ea f.length s := by
  simp only [staForms, List.mem_cons, List.not_mem_nil, or_false] at hf
  rcases hf with rfl | rfl | rfl | rfl | rfl | rfl | rfl | rfl <;> rfl

theorem exec_stxForms (hf : f ∈ stxForms s b w) : exec f.instr s = store s.x f.ea f.length s := by
  simp only [stxForms, List.mem_cons, List.not_mem_nil, or_false] at hf
  rcases hf with rfl | rfl | rfl <;> rfl

theorem exec_styForms (hf : f ∈ styForms s b w) : exec f.instr s = store s.y f.ea f.length s := by
  simp only [styForms, List.mem_cons, List.not_mem_nil, or_false] at hf
  rcases hf with rfl | rfl | rfl <;> rfl

/-- The four memory forms of an instruction have one meaning where each of them has it. -/
theorem exec_fourForms {zp zpX : Byte → Instr} {abs absX : Word → Instr} {meaning : Word → Nat → State → Out}
    (hzp : exec (zp b) s = meaning (eaZp b) 2 s) (hzpX : exec (zpX b) s = meaning (eaZpX b s) 2 s)
    (habs : exec (abs w) s = meaning w 3 s) (habsX : exec (absX w) s = meaning (eaAbsX w s) 3 s)
    (hf : f ∈ fourForms zp zpX abs absX s b w) : exec f.instr s = meaning f.ea f.length s := by
  simp only [fourForms, List.mem_cons, List.not_mem_nil, or_false] at hf
  rcases hf with rfl | rfl | rfl | rfl
  · exact hzp
  · exact hzpX
  · exact habs
  · exact habsX

theorem exec_stzForms (hf : f ∈ stzForms s b w) : exec f.instr s = store 0x00 f.ea f.length s :=
  exec_fourForms (meaning := store 0x00) rfl rfl rfl rfl hf

theorem exec_incForms (hf : f ∈ incForms s b w) : exec f.instr s = countMem increment f.ea f.length s :=
  exec_fourForms (meaning := countMem increment) rfl rfl rfl rfl hf

theorem exec_decForms (hf : f ∈ decForms s b w) : exec f.instr s = countMem decrement f.ea f.length s :=
  exec_fourForms (meaning := countMem decrement) rfl rfl rfl rfl hf

theorem exec_aslForms (hf : f ∈ aslForms s b w) : exec f.instr s = shiftMem shiftLeft f.ea f.length s :=
  exec_fourForms (meaning := shiftMem shiftLeft) rfl rfl rfl rfl hf

theorem exec_lsrForms (hf : f ∈ lsrForms s b w) : exec f.instr s = shiftMem shiftRight f.ea f.length s :=
  exec_fourForms (meaning := shiftMem shiftRight) rfl rfl rfl rfl hf

theorem exec_rolForms (hf : f ∈ rolForms s b w) : exec f.instr s = shiftMem (rotateLeft s.p.c) f.ea f.length s :=
  exec_fourForms (meaning := shiftMem (rotateLeft s.p.c)) rfl rfl rfl rfl hf

theorem exec_rorForms (hf : f ∈ rorForms s b w) : exec f.instr s = shiftMem (rotateRight s.p.c) f.ea f.length s :=
  exec_fourForms (meaning := shiftMem (rotateRight s.p.c)) rfl rfl rfl rfl hf

theorem exec_trbForms (hf : f ∈ trbForms b w) :
    exec f.instr s = testMem (fun m => m &&& ~~~s.a) f.ea f.length s := by
  simp only [trbForms, List.mem_cons, List.not_mem_nil, or_false] at hf
  rcases hf with rfl | rfl <;> rfl

theorem exec_tsbForms (hf : f ∈ tsbForms b w) :
    exec f.instr s = testMem (fun m => m ||| s.a) f.ea f.length s := by
  simp only [tsbForms, List.mem_cons, List.not_mem_nil, or_false] at hf
  rcases hf with rfl | rfl <;> rfl

theorem exec_bitForms {f : ReadForm} (hf : f ∈ bitForms s b w) :
    exec f.instr s = bitMem f.operand f.length s := by
  simp only [bitForms, List.mem_cons, List.not_mem_nil, or_false] at hf
  rcases hf with rfl | rfl | rfl | rfl <;> rfl

end Forms

/-- Settles O11. -/
theorem storeResult : Obligations.StoreResult := by
  intro s b w
  refine ⟨fun f hf => ?_, fun f hf => ?_, fun f hf => ?_, fun f hf => ?_⟩
  · rw [exec_staForms hf]; exact store_stored ..
  · rw [exec_stxForms hf]; exact store_stored ..
  · rw [exec_styForms hf]; exact store_stored ..
  · rw [exec_stzForms hf]; exact store_stored ..

/-- Settles O22. -/
theorem countResult : Obligations.CountResult := by
  intro s b w up down
  have hup (v : Byte) : up v = increment v := (increment_eq_ofNat v).symm
  have hdown (v : Byte) : down v = decrement v := (decrement_eq_ofNat v).symm
  simp only [hup, hdown]
  refine ⟨lda_eq _ 1 s, lda_eq _ 1 s, ldx_eq _ 1 s, ldx_eq _ 1 s, ldy_eq _ 1 s, ldy_eq _ 1 s,
    fun f hf => ?_, fun f hf => ?_⟩
  · obtain ⟨t, ht, hstored⟩ := countMem_stored increment f.ea f.length s
    exact ⟨t, _, (exec_incForms hf).trans ht, hstored, increment_toNat _⟩
  · obtain ⟨t, ht, hstored⟩ := countMem_stored decrement f.ea f.length s
    exact ⟨t, _, (exec_decForms hf).trans ht, hstored, decrement_toNat _⟩

/-- Settles O24. -/
theorem bitTestResult : Obligations.BitTestResult := by
  intro s b w
  refine ⟨fun f hf => ?_, ?_, fun f hf => ?_, fun f hf => ?_⟩
  · rw [exec_bitForms hf, ← pc_add_eq_pcAfter]
    rfl
  · rw [← pc_add_eq_pcAfter]
    rfl
  · obtain ⟨t, ht, hstored⟩ := testMem_stored (fun m => m &&& ~~~s.a) f.ea f.length s
    exact ⟨t, _, (exec_trbForms hf).trans ht, hstored, fun k hk => getLsbD_and_not s.a _ hk⟩
  · obtain ⟨t, ht, hstored⟩ := testMem_stored (fun m => m ||| s.a) f.ea f.length s
    exact ⟨t, _, (exec_tsbForms hf).trans ht, hstored, fun k _ => getLsbD_or_ite s.a _ k⟩

/-- Settles O25: each form is a shift of its byte, whose result and carry the lemmas above give. -/
theorem shiftResult : Obligations.ShiftResult := by
  intro s b w acc shifts
  have hacc {i : Instr} (g : Byte → Shifted) {c : Bool} {n : Nat} (hexec : exec i s = shiftAcc g s)
      (hc : (g s.a).carry = c) (hn : (g s.a).result.toNat = n) : ∃ r, exec i s = .next (acc r c) ∧ r.toNat = n := by
    subst hc
    exact ⟨_, hexec.trans (shiftAcc_eq g s), hn⟩
  have hmem {f : StoreForm} (g : Byte → Shifted) {c : Bool} {n : Nat}
      (hexec : exec f.instr s = shiftMem g f.ea f.length s) (hc : (g (s.datum f.ea)).carry = c)
      (hn : (g (s.datum f.ea)).result.toNat = n) : shifts f c n := by
    obtain ⟨t, ht, hstored⟩ := shiftMem_stored g f.ea f.length s
    subst hc
    exact ⟨t, _, hexec.trans ht, hstored, hn⟩
  refine ⟨hacc shiftLeft rfl (shiftLeft_carry _) (shiftLeft_toNat _), hacc shiftRight rfl rfl (shiftRight_toNat _),
    hacc (rotateLeft s.p.c) rfl (rotateLeft_carry _ _) (rotateLeft_toNat _ _),
    hacc (rotateRight s.p.c) rfl rfl (rotateRight_toNat _ _), fun f hf => ?_, fun f hf => ?_, fun f hf => ?_,
    fun f hf => ?_⟩
  · exact hmem shiftLeft (exec_aslForms hf) (shiftLeft_carry _) (shiftLeft_toNat _)
  · exact hmem shiftRight (exec_lsrForms hf) rfl (shiftRight_toNat _)
  · exact hmem (rotateLeft s.p.c) (exec_rolForms hf) (rotateLeft_carry _ _) (rotateLeft_toNat _ _)
  · exact hmem (rotateRight s.p.c) (exec_rorForms hf) rfl (rotateRight_toNat _ _)

/-- Settles O29: the target is the operand or the word at the pointer. -/
theorem jumpResult : Obligations.JumpResult := by
  intro s w wordAt
  have hword (addr : Word) (n : Nat) (h : addr = BitVec.ofNat 16 n) : s.readWord pointerPlace addr = wordAt n := by
    rw [State.readWord_eq_ofNat, h, ← word_ofNat_succ]
  refine ⟨rfl, ?_, ?_⟩
  · show jump (targetAbsInd w s) s = _
    rw [targetAbsInd, hword w w.toNat (by simp), jump]
  · show jump (targetAbsIndX w s) s = _
    rw [targetAbsIndX, hword _ _ (eaAbsX_eq_ofNat w s), jump]

end Sys2Proof.Claims

/-! PROOFS. A byte that another bus master writes within a step: which places of the step find it (R77, log 18). -/

namespace Sys2Proof.Machine

variable {s : State} {place : Fin 12} {w : Word} {v : Byte}

/-- The one write another bus master has still to make is made by every place from its own on. -/
theorem State.upTo_of_single (hd : s.dma = [⟨place, w, v⟩]) (later : Nat) :
    s.upTo later = if place.val ≤ later then { s.write w v with dma := [] } else s := by
  split
  · next h => simp [State.upTo, hd, h, State.write]
  · next h =>
    have hnone : decide (place.val ≤ later) = false := decide_eq_false h
    rw [State.upTo, hd, List.takeWhile_cons_of_neg (by simp [hnone]), List.dropWhile_cons_of_neg (by simp [hnone]),
      ← hd]
    rfl

/-- What a place of the step finds in memory beside that write. -/
theorem State.read_upTo_of_single (hd : s.dma = [⟨place, w, v⟩]) (hram : kindAt s.platform w = .ram) (later : Nat)
    (addr : Word) :
    (s.upTo later).read addr = if place.val ≤ later ∧ w = addr then v else s.read addr := by
  rw [State.upTo_of_single hd]
  by_cases hlater : place.val ≤ later
  · have hread := s.read_write w v addr
    by_cases haddr : w = addr
    · subst haddr
      rw [if_pos hlater, if_pos ⟨hlater, rfl⟩]
      exact hread.trans (if_pos ⟨rfl, hram⟩)
    · rw [if_pos hlater, if_neg fun h => haddr h.2]
      exact hread.trans (if_neg fun h => haddr h.1)
  · rw [if_neg hlater, if_neg fun h => hlater h.1]

/-- A read of that byte, before the write and after it. -/
theorem State.readAt_of_single (hd : s.dma = [⟨place, w, v⟩]) (hram : kindAt s.platform w = .ram) (later : Nat) :
    s.readAt later w = if place.val ≤ later then v else s.read w := by
  simp [State.readAt_ram hram, State.read_upTo_of_single hd hram]

/-- At the end of the step a read-modify-write of that byte has overwritten the other master's, unless that came after
it (R72, R77). -/
theorem State.finish_read_writeBack (hd : s.dma = [⟨place, w, v⟩]) (hram : kindAt s.platform w = .ram) (ml : Bool)
    (r : Byte) :
    (s.writeBack ml w r).finish.read w = if place.val ≤ writeBackPlace then r else v := by
  have hdma : (s.writeBack ml w r).dma = (s.upTo writeBackPlace).dma := rfl
  rw [State.upTo_of_single hd] at hdma
  by_cases hplace : place.val ≤ writeBackPlace
  · rw [if_pos hplace] at hdma ⊢
    rw [State.finish_of_nil hdma, State.writeBack, State.read_writeAt, if_pos ⟨rfl, hram⟩]
  · rw [if_neg hplace, hd] at hdma
    have hend : place.val ≤ endPlace := Nat.le_of_lt_succ place.isLt
    rw [State.finish, State.read_upTo_of_single hdma hram, if_pos ⟨hend, rfl⟩, if_neg hplace]

end Sys2Proof.Machine

namespace Sys2Proof.Claims

open Sys2Proof.Machine

/-- Settles O54: INC reads at `dataPlace` and writes at `writeBackPlace`, JMP (ABS) reads its high byte at the second of
the pointer's places. -/
theorem otherMasters : Obligations.OtherMasters := by
  refine ⟨fun s place hd => State.upTo_of_nil hd place, fun s place w v hd hram => ⟨_, rfl, ?_⟩,
    fun s place w v hd hlo hhi => ⟨_, rfl, ?_⟩⟩
  · show (s.writeBack true w (s.datum w + 1)).finish.read w = _
    rw [State.finish_read_writeBack hd hram, State.datum, State.readAt_of_single hd hram]
    by_cases hread : place.val ≤ dataPlace
    · have hwrite : place.val ≤ writeBackPlace := hread.trans (by decide)
      rw [if_pos hread, if_pos hwrite, if_pos hread]
    · rw [if_neg hread, if_neg hread]
  · have hne : w + 1 ≠ w := by bv_omega
    have hlow : s.readAt pointerPlace w = s.read w := by
      rw [State.readAt_ram hlo, State.read_upTo_of_single hd hhi, if_neg fun h => hne h.2]
    show wordOf (s.readAt pointerPlace w) (s.readAt (pointerPlace + 1) (w + 1)) = _
    rw [hlow, State.readAt_of_single hd hhi]

end Sys2Proof.Claims

/-! PROOFS. The bus record of an instruction explains memory: its writes are those the instruction made, in their order,
and each read gives what the writes before it leave (R61, R62, R70). -/

namespace Sys2Proof.Machine

variable {i : Instr} {s t u : State} {ea : Word} {n : Nat} {dummyReads : Bool}

/-! The writes -/

/-- Making the writes on record leaves what the instruction left (R62, R77). -/
theorem Effect.replay_bus (h : Effect s n t) (hs : s.bus = []) : (s.replay t.bus).SameBus t := by
  induction h with
  | refl => rw [hs]; exact ⟨rfl, rfl, rfl, rfl⟩
  | registers _ _ _ _ _ _ _ ih => exact ⟨ih.mem, ih.platform, ih.dma, ih.draws⟩
  | write _ place ml addr v ih =>
    rw [State.writeAt_bus, State.replay_append]
    obtain ⟨hmem, hplatform, hdma, hdraws⟩ := (ih.upTo place).write addr v
    exact ⟨hmem, hplatform, hdma, hdraws⟩

/-- With no other bus master at work, the accesses leave the writes among them in memory (R62). -/
theorem State.replay_mem_of_nil (hd : s.dma = []) (accesses : List BusAccess) :
    (s.replay accesses).mem = Memory.applyWrites s.platform s.mem accesses := by
  induction accesses generalizing s with
  | nil => rfl
  | cons access rest ih =>
    rw [State.replay, Memory.applyWrites, State.upTo_of_nil hd]
    split
    · exact ih (s := s.write access.addr access.value) hd
    · exact ih hd

/-! The reads made before the first write -/

/-- The access is a read made in the state (R61). -/
def State.Made (s : State) (access : BusAccess) : Prop :=
  access.write = false ∧ access.value = s.readAt access.place access.addr

theorem State.readAccess_made (s : State) (place : Nat) (addr : Word) : s.Made (s.readAccess place addr) := ⟨rfl, rfl⟩

theorem State.readWordAccesses_made {place : Nat} {addr : Word} {access : BusAccess}
    (h : access ∈ s.readWordAccesses place addr) : s.Made access := by
  rw [State.readWordAccesses, List.mem_cons, List.mem_singleton] at h
  rcases h with rfl | rfl <;> exact s.readAccess_made ..

theorem fetchAccesses_made {access : BusAccess} (h : access ∈ fetchAccesses i s) : s.Made access := by
  obtain ⟨k, -, rfl⟩ := List.mem_map.1 h
  exact ⟨rfl, rfl⟩

theorem pointerAccesses_made {access : BusAccess} (h : access ∈ pointerAccesses i s) : s.Made access := by
  unfold pointerAccesses at h
  split at h
  case h_1 | h_2 | h_3 =>
    rw [List.mem_cons, List.mem_singleton] at h
    rcases h with rfl | rfl <;> exact s.readAccess_made ..
  case h_4 | h_5 => exact State.readWordAccesses_made h
  case h_6 => exact absurd h List.not_mem_nil

theorem crossingAccesses_made {access : BusAccess} (h : access ∈ crossingAccesses dummyReads i s) : s.Made access := by
  unfold crossingAccesses at h
  split at h
  · rw [List.mem_singleton.1 h]; exact s.readAccess_made ..
  · exact absurd h List.not_mem_nil

theorem dataReads_made {access : BusAccess} (h : access ∈ dataReads dummyReads i s) : s.Made access := by
  have hmodify {ml : Bool} (h : access ∈ (dataAddr i s).toList.flatMap (modifyReads dummyReads ml s)) :
      s.Made access := by
    obtain ⟨ea, -, h⟩ := List.mem_flatMap.1 h
    rcases List.mem_cons.1 h with rfl | h
    · exact s.readAccess_made ..
    · split at h
      · rw [List.mem_singleton.1 h]; exact ⟨rfl, rfl⟩
      · exact absurd h List.not_mem_nil
  unfold dataReads at h
  split at h
  case h_2 => obtain ⟨ea, -, rfl⟩ := List.mem_map.1 h; exact s.readAccess_made ..
  case h_4 | h_5 => exact hmodify h
  case h_7 => obtain ⟨k, -, rfl⟩ := List.mem_map.1 h; exact s.readAccess_made ..
  case h_1 | h_3 | h_6 | h_8 => exact absurd h List.not_mem_nil

theorem vectorAccesses_made {access : BusAccess} (h : access ∈ vectorAccesses i t) : t.Made access := by
  unfold vectorAccesses at h
  split at h
  · exact State.readWordAccesses_made h
  · exact absurd h List.not_mem_nil

/-- The accesses listed before the writes. -/
def readsBefore (dummyReads : Bool) (i : Instr) (s : State) : List BusAccess :=
  fetchAccesses i s ++ pointerAccesses i s ++ crossingAccesses dummyReads i s ++ dataReads dummyReads i s

theorem readsBefore_made {access : BusAccess} (h : access ∈ readsBefore dummyReads i s) : s.Made access := by
  simp only [readsBefore, List.mem_append] at h
  rcases h with ((h | h) | h) | h
  · exact fetchAccesses_made h
  · exact pointerAccesses_made h
  · exact crossingAccesses_made h
  · exact dataReads_made h

theorem listedAccesses_eq_reads (dummyReads : Bool) (i : Instr) (s t : State) :
    listedAccesses dummyReads i s t = readsBefore dummyReads i s ++ t.bus ++ vectorAccesses i t := rfl

/-! What a list of accesses reads -/

/-- Reads leave the state as it is. -/
theorem State.replay_of_made {accesses : List BusAccess} (h : ∀ access ∈ accesses, u.Made access) :
    s.replay accesses = s := by
  induction accesses with
  | nil => rfl
  | cons access rest ih =>
    rw [State.replay_read s (h access List.mem_cons_self).1, ih fun a ha => h a (List.mem_cons_of_mem _ ha)]

/-- A read made in a state gives the byte of RAM or ROM that is there when its place is reached (R62). -/
theorem State.Made.value_eq {access : BusAccess} (h : s.Made access)
    (hk : kindAt s.platform access.addr = .ram ∨ kindAt s.platform access.addr = .rom) :
    access.value = (s.upTo access.place).read access.addr := by
  rcases hk with hk | hk
  · exact h.2.trans (State.readAt_ram hk _)
  · exact h.2.trans (State.readAt_rom hk _)

theorem State.Reads.of_made {accesses : List BusAccess} (h : ∀ access ∈ accesses, s.Made access) :
    s.Reads accesses := by
  intro before access after he _ hk
  subst he
  rw [State.replay_of_made fun a ha => h a (List.mem_append_left _ ha)]
  exact (h access (by simp)).value_eq hk

theorem State.Reads.of_writes {accesses : List BusAccess} (h : ∀ access ∈ accesses, access.write = true) :
    s.Reads accesses := by
  intro before access after he hread
  subst he
  exact absurd (h access (by simp)) (by simp [hread])

/-- Accesses made after others read what those leave. -/
theorem State.Reads.append {l l' : List BusAccess} (h : s.Reads l) (h' : (s.replay l).Reads l') :
    s.Reads (l ++ l') := by
  intro before access after he hread hk
  rcases List.append_eq_append_iff.1 he with ⟨q, rfl, hq⟩ | ⟨q, rfl, hq⟩
  · rw [State.replay_append]
    exact h' q access after hq hread (by rwa [State.replay_platform])
  · cases q with
    | nil =>
      rw [List.nil_append] at hq
      rw [List.append_nil] at h'
      exact h' [] access after hq.symm hread (by rwa [State.replay_platform])
    | cons x q =>
      rw [List.cons_append, List.cons.injEq] at hq
      obtain ⟨rfl, -⟩ := hq
      exact h before access q rfl hread hk

/-- States alike to the bus read alike. -/
theorem State.SameBus.reads (h : s.SameBus t) {accesses : List BusAccess} (ht : t.Reads accesses) :
    s.Reads accesses := by
  intro before access after he hread hk
  rw [ht before access after he hread (by rwa [h.platform])]
  exact State.read_congr ((h.replay before).upTo _).mem _

/-! The record of an instruction -/

theorem exec_bus_writes (hs : s.bus = []) (ht : exec i s = .next t) : ∀ access ∈ t.bus, access.write = true := by
  obtain ⟨made, hbus, -, hmade⟩ := (exec_effect ht).bus
  rw [hs, List.nil_append] at hbus
  rw [hbus]
  exact fun access h => (hmade access h).1

/-- The writes among the accesses recorded are those the instruction made, in their order. -/
theorem recordedAccesses_writes (hs : s.bus = []) (ht : exec i s = .next t) :
    ((recordedAccesses dummyReads i s t).filter fun access => access.write) = t.bus := by
  have hreads {l : List BusAccess} {v : State} (h : ∀ access ∈ l, v.Made access) :
      (l.filter fun access => access.write) = [] :=
    List.filter_eq_nil_iff.2 fun access ha => by simp [(h access ha).1]
  obtain ⟨-, -, -, hfilter⟩ := s.fillCycles_listed dummyReads (unreadAddr i s) (one_le_lastMoment i) (cyclesOf i s)
    (listedAccesses dummyReads i s t)
  rw [recordedAccesses, hfilter, listedAccesses_eq_reads, List.filter_append, List.filter_append,
    hreads fun _ => readsBefore_made, hreads fun _ => vectorAccesses_made,
    List.filter_eq_self.2 (exec_bus_writes hs ht), List.nil_append, List.append_nil]

/-- Making the accesses recorded leaves what the instruction left. -/
theorem recordedAccesses_replay (hs : s.bus = []) (ht : exec i s = .next t) :
    (s.replay (recordedAccesses dummyReads i s t)).SameBus t := by
  rw [← State.replay_filter, recordedAccesses_writes hs ht]
  exact (exec_effect ht).replay_bus hs

/-- The reads recorded give what the writes before them leave: those listed stand before the writes, or after them all,
and those of R76 read what is there then. -/
theorem recordedAccesses_reads (hs : s.bus = []) (ht : exec i s = .next t) :
    s.Reads (recordedAccesses dummyReads i s t) := by
  refine State.Reads.fillCycles ?_ _ _ _ _ _
  rw [listedAccesses_eq_reads]
  have hbefore : s.replay (readsBefore dummyReads i s) = s := State.replay_of_made fun _ => readsBefore_made
  refine ((State.Reads.of_made fun _ => readsBefore_made).append (.of_writes (exec_bus_writes hs ht))).append ?_
  rw [State.replay_append, hbefore]
  exact ((exec_effect ht).replay_bus hs).reads (.of_made fun _ => vectorAccesses_made)

/-! The record of a store -/

/-- An instruction whose one data access is the write of an effective address (R144 to R147). -/
structure Stores (i : Instr) (s : State) (ea : Word) : Prop where
  data : (info i).data = .write
  addr : dataAddr i s = some ea
  answers : ∃ v len, exec i s = store v ea len s

theorem Stores.bus_addrs (h : Stores i s ea) (hs : s.bus = []) (ht : exec i s = .next t) :
    (t.bus.map fun access => access.addr) = [ea] := by
  obtain ⟨v, len, hexec⟩ := h.answers
  obtain rfl := store_next (hexec.symm.trans ht)
  rw [State.advance_bus, State.writeAt_bus, hs]
  rfl

/-- No read recorded is of its effective address, but where a fetch, a pointer read or the re-read of a page crossing
falls on it: no datum is read, and the reads of R76 keep away. -/
theorem Stores.mem_of_read (h : Stores i s ea) (hs : s.bus = []) (ht : exec i s = .next t) {access : BusAccess}
    (hmem : access ∈ recordedAccesses dummyReads i s t) (hread : access.write = false) (haddr : access.addr = ea) :
    access ∈ fetchAccesses i s ++ pointerAccesses i s ++ crossingAccesses dummyReads i s := by
  have hunread : unreadAddr i s = some ea := by simp only [unreadAddr, h.data, h.addr]
  have hdata : dataReads dummyReads i s = [] := by simp only [dataReads, h.data]
  have hvector : vectorAccesses i t = [] := by simp only [vectorAccesses, h.data]
  obtain ⟨-, -, hall, -⟩ := s.fillCycles_listed dummyReads (unreadAddr i s) (one_le_lastMoment i) (cyclesOf i s)
    (listedAccesses dummyReads i s t)
  rcases hall access hmem with hlisted | ⟨k, moment, l, hdiscarded⟩
  · rw [listedAccesses, hdata, hvector, List.append_nil, List.append_nil] at hlisted
    rcases List.mem_append.1 hlisted with hlisted | hlisted
    · exact hlisted
    · exact absurd (exec_bus_writes hs ht access hlisted) (by simp [hread])
  · rw [hunread] at hdiscarded
    exact absurd (hdiscarded ▸ haddr) (s.discardedAccess_avoids ea k moment l)

end Sys2Proof.Machine

namespace Sys2Proof.Claims

open Sys2Proof.Machine

section

variable {s : State} {b : Byte} {w : Word} {f : StoreForm}

theorem dataAddr_absY {i : Instr} {w : Word} (hmode : (info i).mode = .absY)
    (hbytes : operandBytes i = [lowByte w, highByte w]) (s : State) : dataAddr i s = some (eaAbsY w s) := by
  simp [dataAddr, hmode, operandWord, operand1, hbytes]

theorem staForms_store (hf : f ∈ staForms s b w) : Stores f.instr s f.ea := by
  have hexec := exec_staForms hf
  simp only [staForms, List.mem_cons, List.not_mem_nil, or_false] at hf
  rcases hf with rfl | rfl | rfl | rfl | rfl | rfl | rfl | rfl
  · exact ⟨rfl, rfl, _, _, hexec⟩
  · exact ⟨rfl, rfl, _, _, hexec⟩
  · exact ⟨rfl, rfl, _, _, hexec⟩
  · exact ⟨rfl, rfl, _, _, hexec⟩
  · exact ⟨rfl, rfl, _, _, hexec⟩
  · exact ⟨rfl, dataAddr_abs rfl rfl s, _, _, hexec⟩
  · exact ⟨rfl, dataAddr_absX rfl rfl s, _, _, hexec⟩
  · exact ⟨rfl, dataAddr_absY rfl rfl s, _, _, hexec⟩

theorem stxForms_store (hf : f ∈ stxForms s b w) : Stores f.instr s f.ea := by
  have hexec := exec_stxForms hf
  simp only [stxForms, List.mem_cons, List.not_mem_nil, or_false] at hf
  rcases hf with rfl | rfl | rfl
  · exact ⟨rfl, rfl, _, _, hexec⟩
  · exact ⟨rfl, rfl, _, _, hexec⟩
  · exact ⟨rfl, dataAddr_abs rfl rfl s, _, _, hexec⟩

theorem styForms_store (hf : f ∈ styForms s b w) : Stores f.instr s f.ea := by
  have hexec := exec_styForms hf
  simp only [styForms, List.mem_cons, List.not_mem_nil, or_false] at hf
  rcases hf with rfl | rfl | rfl
  · exact ⟨rfl, rfl, _, _, hexec⟩
  · exact ⟨rfl, rfl, _, _, hexec⟩
  · exact ⟨rfl, dataAddr_abs rfl rfl s, _, _, hexec⟩

theorem stzForms_store (hf : f ∈ stzForms s b w) : Stores f.instr s f.ea := by
  have hexec := exec_stzForms hf
  simp only [stzForms, fourForms, List.mem_cons, List.not_mem_nil, or_false] at hf
  rcases hf with rfl | rfl | rfl | rfl
  · exact ⟨rfl, rfl, _, _, hexec⟩
  · exact ⟨rfl, rfl, _, _, hexec⟩
  · exact ⟨rfl, dataAddr_abs rfl rfl s, _, _, hexec⟩
  · exact ⟨rfl, dataAddr_absX rfl rfl s, _, _, hexec⟩

/-- Each form of STA, STX, STY and STZ makes the one write of its effective address (R144 to R147). -/
theorem storeForms_store (hf : f ∈ staForms s b w ++ stxForms s b w ++ styForms s b w ++ stzForms s b w) :
    Stores f.instr s f.ea := by
  simp only [List.mem_append] at hf
  rcases hf with ((hf | hf) | hf) | hf
  · exact staForms_store hf
  · exact stxForms_store hf
  · exact styForms_store hf
  · exact stzForms_store hf

end

/-- Settles O55: making the accesses recorded is making the instruction's writes, and each read among them is made in the
state the writes before it leave. -/
theorem busWritesExplainMemory : Obligations.BusWritesExplainMemory := by
  intro i s t dummyReads hs ht all
  have hreplay : (s.replay all).SameBus t := recordedAccesses_replay hs ht
  refine ⟨(hreplay.upTo endPlace).mem, fun hd => ?_, recordedAccesses_reads hs ht, fun b w f hf hi => ?_⟩
  · rw [hreplay.mem, State.replay_mem_of_nil hd]
  · subst hi
    have hstore := storeForms_store hf
    refine ⟨?_, fun access hmem hread haddr => hstore.mem_of_read hs ht hmem hread haddr⟩
    rw [recordedAccesses_writes hs ht]
    exact hstore.bus_addrs hs ht

end Sys2Proof.Claims

/-! PROOFS. The cycle footnotes: page crossings of an index, decimal mode, branches (R74, R220, R360). -/

namespace Sys2Proof.Machine

open Sys2Proof.Claims

variable {i : Instr} {s : State} {b rel : Byte} {w : Word} {n len : Nat} {cond : Bool}

/-! Pages -/

/-- Two addresses lie in different pages where their high bytes differ (R7). -/
theorem crosses_toNat (w w' : Word) : (crosses w w').toNat = if w.toNat / 256 = w'.toNat / 256 then 0 else 1 := by
  have hpage : highByte w = highByte w' ↔ w.toNat / 256 = w'.toNat / 256 := by
    rw [← BitVec.toNat_inj, highByte_toNat, highByte_toNat]
  by_cases h : w.toNat / 256 = w'.toNat / 256
  · rw [if_pos h, crosses, hpage.2 h, bne_self_eq_false]
    rfl
  · rw [if_neg h, crosses, bne_iff_ne.2 fun heq => h (hpage.1 heq)]
    rfl

/-- An index leaves the page exactly where it carries out of the low byte (R74). -/
theorem crosses_index (base : Word) (index : Byte) :
    (crosses base (base + index.setWidth 16)).toNat = pageCycle base index := by
  have hsum : (base + index.setWidth 16).toNat = (base.toNat + index.toNat) % 65536 := by simp
  have hiff : base.toNat / 256 = (base.toNat + index.toNat) % 65536 / 256 ↔
      base.toNat % 256 + index.toNat < 256 := by
    have hbase := base.isLt
    have hindex := index.isLt
    omega
  rw [crosses_toNat, hsum, pageCycle]
  simp only [hiff]

theorem indexCrosses_absX (hmode : (info i).mode = .absX) (hbytes : operandBytes i = [lowByte w, highByte w]) :
    (indexCrosses i s).toNat = pageCycle w s.x := by
  have hword : operandWord i = w := by simp [operandWord, operand1, hbytes]
  simp only [indexCrosses, hmode, hword]
  exact crosses_index w s.x

theorem indexCrosses_absY (hmode : (info i).mode = .absY) (hbytes : operandBytes i = [lowByte w, highByte w]) :
    (indexCrosses i s).toNat = pageCycle w s.y := by
  have hword : operandWord i = w := by simp [operandWord, operand1, hbytes]
  simp only [indexCrosses, hmode, hword]
  exact crosses_index w s.y

theorem indexCrosses_indY (hmode : (info i).mode = .indY) (hbytes : operandBytes i = [b]) :
    (indexCrosses i s).toNat = pageCycle (s.readWordZP b) s.y := by
  have hbyte : operand1 i = b := by simp [operand1, hbytes]
  simp only [indexCrosses, hmode, hbyte]
  exact crosses_index (s.readWordZP b) s.y

/-! The count of each footnote -/

theorem cyclesOf_fixed (h : (info i).footnote = .none) : cyclesOf i s = (info i).cycles := by
  simp only [cyclesOf, extraCycles, h, Nat.add_zero]

theorem cyclesOf_page (h : (info i).footnote = .page) (hn : (indexCrosses i s).toNat = n) :
    cyclesOf i s = (info i).cycles + n := by
  simp only [cyclesOf, extraCycles, h, hn]

theorem cyclesOf_decimal (h : (info i).footnote = .decimal) : cyclesOf i s = (info i).cycles + s.p.d.toNat := by
  simp only [cyclesOf, extraCycles, h]

theorem cyclesOf_pageDecimal (h : (info i).footnote = .pageDecimal) (hn : (indexCrosses i s).toNat = n) :
    cyclesOf i s = (info i).cycles + n + s.p.d.toNat := by
  simp only [cyclesOf, extraCycles, h, hn, Nat.add_assoc]

/-! Branches -/

/-- The target of a branch, as the statements have it (R114, R115). -/
theorem relTarget_eq_branchTarget (len : Nat) (rel : Byte) (s : State) :
    relTarget len rel s = branchTarget s len rel := by
  rw [relTarget, branchTarget, BitVec.ofInt_add, BitVec.ofInt_add, BitVec.ofInt_natCast, BitVec.ofInt_natCast,
    BitVec.ofNat_toNat, BitVec.setWidth_eq]
  rfl

/-- A branch leaves the page of the next instruction or stays in it (R220, R230). -/
theorem branchCrosses_toNat (hlen : (encode i).length = len) (hrel : (operandBytes i).getD (len - 2) 0 = rel) :
    (branchCrosses i s).toNat =
      if (pcAfter s len).toNat / 256 = (branchTarget s len rel).toNat / 256 then 0 else 1 := by
  simp only [branchCrosses, hlen, hrel, relTarget_eq_branchTarget, pc_add_eq_pcAfter, crosses_toNat]

/-- A branch takes one cycle more if it occurs, and another if it leaves the page (R220, R230, R360). -/
theorem cyclesOf_branch (hfoot : (info i).footnote = .branch) (htaken : taken i s = cond)
    (hlen : (encode i).length = len) (hrel : (operandBytes i).getD (len - 2) 0 = rel) (n : Nat)
    (hcycles : (info i).cycles = n) :
    cyclesOf i s = if cond then
      (if (pcAfter s len).toNat / 256 = (branchTarget s len rel).toNat / 256 then n + 1 else n + 2) else n := by
  simp only [cyclesOf, extraCycles, hfoot, htaken, hcycles, branchCrosses_toNat hlen hrel]
  split
  · split
    · rfl
    · rfl
  · rfl

/-- JMP (ABS) reads its operand's low byte as it is (R232). -/
theorem cyclesOf_jmpInd (w : Word) (s : State) :
    cyclesOf (.jmpInd w) s = if w.toNat % 256 = 255 then 7 else 6 := by
  have hlow : lowByte w = 0xFF ↔ w.toNat % 256 = 255 := by
    rw [← BitVec.toNat_inj, lowByte_toNat]
    rfl
  show 6 + (lowByte w == 0xFF).toNat = _
  by_cases h : w.toNat % 256 = 255
  · rw [if_pos h, hlow.2 h]
    rfl
  · rw [if_neg h, beq_eq_false_iff_ne.2 fun heq => h (hlow.1 heq)]
    rfl

end Sys2Proof.Machine

namespace Sys2Proof.Claims

open Sys2Proof.Machine

section

variable {s : State} {b rel : Byte} {w : Word} {f : CycleForm}

/-- The conditional branches (R220). -/
theorem flagBranches_cycles {f : BranchForm} (hf : f ∈ flagBranches s) :
    cyclesOf (f.instr rel) s = if f.cond then
      (if (pcAfter s 2).toNat / 256 = (branchTarget s 2 rel).toNat / 256 then 3 else 4) else 2 := by
  simp only [flagBranches, List.mem_cons, List.not_mem_nil, or_false] at hf
  rcases hf with rfl | rfl | rfl | rfl | rfl | rfl | rfl | rfl <;> exact cyclesOf_branch rfl rfl rfl rfl 2 rfl

theorem bra_cycles (rel : Byte) (s : State) : cyclesOf (.bra rel) s =
    if (pcAfter s 2).toNat / 256 = (branchTarget s 2 rel).toNat / 256 then 3 else 4 := by
  have hcross := branchCrosses_toNat (i := .bra rel) (rel := rel) (len := 2) (s := s) rfl rfl
  show 3 + (branchCrosses (.bra rel) s).toNat = _
  rw [hcross]
  split
  · rfl
  · rfl

/-- A branch on a bit of a page-zero byte, from its cell of the op-code map and its bytes (R230, R231). -/
theorem bitBranch_cycles {i : Instr} {bit value : Bool} (hcell : info i = ⟨.zpRel, .read, 5, .branch, false⟩)
    (hbytes : operandBytes i = [b, rel]) (htaken : taken i s = (bit == value)) :
    cyclesOf i s = if bit = value then
      (if (pcAfter s 3).toNat / 256 = (branchTarget s 3 rel).toNat / 256 then 6 else 7) else 5 := by
  have hlen : (encode i).length = 3 := by rw [encode, hbytes]; rfl
  have hcount := cyclesOf_branch (rel := rel) (by rw [hcell]) htaken hlen (by simp [hbytes]) 5 (by rw [hcell])
  simpa only [beq_iff_eq] using hcount

theorem bbr_cycles (n : Fin 8) (b rel : Byte) (s : State) :
    cyclesOf (bbr n b rel) s = if (s.datum (eaZp b)).getLsbD n = false then
      (if (pcAfter s 3).toNat / 256 = (branchTarget s 3 rel).toNat / 256 then 6 else 7) else 5 := by
  fin_cases n <;> exact bitBranch_cycles rfl rfl rfl

theorem bbs_cycles (n : Fin 8) (b rel : Byte) (s : State) :
    cyclesOf (bbs n b rel) s = if (s.datum (eaZp b)).getLsbD n = true then
      (if (pcAfter s 3).toNat / 256 = (branchTarget s 3 rel).toNat / 256 then 6 else 7) else 5 := by
  fin_cases n <;> exact bitBranch_cycles rfl rfl rfl

/-- ADC and SBC: one cycle more in decimal mode (R360). -/
theorem decimalForms_cycles (hf : f ∈ adcCycles s b w ++ sbcCycles s b w) :
    cyclesOf f.instr s = f.cycles + s.p.d.toNat := by
  simp only [adcCycles, sbcCycles, nineCycles, List.mem_append, List.mem_cons, List.not_mem_nil, or_false] at hf
  rcases hf with hf | hf
  all_goals
    rcases hf with rfl | rfl | rfl | rfl | rfl | rfl | rfl | rfl | rfl
    · exact cyclesOf_decimal rfl
    · exact cyclesOf_decimal rfl
    · exact cyclesOf_decimal rfl
    · exact cyclesOf_decimal rfl
    · exact cyclesOf_pageDecimal rfl (indexCrosses_indY rfl rfl)
    · exact cyclesOf_decimal rfl
    · exact cyclesOf_decimal rfl
    · exact cyclesOf_pageDecimal rfl (indexCrosses_absX rfl rfl)
    · exact cyclesOf_pageDecimal rfl (indexCrosses_absY rfl rfl)

/-- The other instructions of nine forms: one cycle more where the index carries (R74, R360). -/
theorem nineForms_cycles
    (hf : f ∈ andCycles s b w ++ cmpCycles s b w ++ eorCycles s b w ++ ldaCycles s b w ++ oraCycles s b w) :
    cyclesOf f.instr s = f.cycles := by
  simp only [andCycles, cmpCycles, eorCycles, ldaCycles, oraCycles, nineCycles, List.mem_append, List.mem_cons,
    List.not_mem_nil, or_false] at hf
  rcases hf with (((hf | hf) | hf) | hf) | hf
  all_goals
    rcases hf with rfl | rfl | rfl | rfl | rfl | rfl | rfl | rfl | rfl
    · exact cyclesOf_fixed rfl
    · exact cyclesOf_fixed rfl
    · exact cyclesOf_fixed rfl
    · exact cyclesOf_fixed rfl
    · exact cyclesOf_page rfl (indexCrosses_indY rfl rfl)
    · exact cyclesOf_fixed rfl
    · exact cyclesOf_fixed rfl
    · exact cyclesOf_page rfl (indexCrosses_absX rfl rfl)
    · exact cyclesOf_page rfl (indexCrosses_absY rfl rfl)

theorem indexedLoads_cycles (hf : f ∈ indexedLoadCycles s b w) : cyclesOf f.instr s = f.cycles := by
  simp only [indexedLoadCycles, List.mem_cons, List.not_mem_nil, or_false] at hf
  rcases hf with rfl | rfl | rfl | rfl | rfl | rfl
  · exact cyclesOf_fixed rfl
  · exact cyclesOf_page rfl (indexCrosses_absY rfl rfl)
  · exact cyclesOf_fixed rfl
  · exact cyclesOf_page rfl (indexCrosses_absX rfl rfl)
  · exact cyclesOf_fixed rfl
  · exact cyclesOf_page rfl (indexCrosses_absX rfl rfl)

theorem indexedStores_cycles (hf : f ∈ indexedStoreCycles b w) : cyclesOf f.instr s = f.cycles := by
  simp only [indexedStoreCycles, List.mem_cons, List.not_mem_nil, or_false] at hf
  rcases hf with rfl | rfl | rfl | rfl | rfl | rfl | rfl | rfl | rfl <;> exact cyclesOf_fixed rfl

end

/-- Settles O58, one family of instructions after the other. -/
theorem cycleCounts : Obligations.CycleCounts := by
  intro s b rel w n samePage
  refine ⟨fun f hf => flagBranches_cycles hf, bra_cycles rel s, bbr_cycles n b rel s, bbs_cycles n b rel s,
    fun f hf => decimalForms_cycles hf, fun f hf => ?_, cyclesOf_jmpInd w s⟩
  rcases List.mem_append.1 hf with hf | hf
  · rcases List.mem_append.1 hf with hf | hf
    · exact nineForms_cycles hf
    · exact indexedLoads_cycles hf
  · exact indexedStores_cycles hf

end Sys2Proof.Claims

/-! PROOFS. Decoding and encoding: each undoes the other, and the op code alone fixes the length. -/

namespace Sys2Proof.Machine

/-! The length of an instruction -/

/-- The first byte of an encoding gives its length (R101, R103, R125). -/
theorem opLength_opcode (i : Instr) : opLength (opcode i) = (encode i).length := by
  have hrsv (op : Byte) (hu : unassigned op = true) :
      opLength op = (op :: List.replicate (Config.rsvLen op - 1) (0x00 : Byte)).length := by
    rw [Laws.opLength_unassigned hu, List.length_cons, List.length_replicate, Laws.rsvLen_pos]
  cases i <;> dsimp only [opcode, encode, operandBytes]
  case rsv02 | rsv03 | rsv0B | rsv13 | rsv1B | rsv22 | rsv23 | rsv2B | rsv33 | rsv3B | rsv42 | rsv43 | rsv44 |
      rsv4B | rsv53 | rsv54 | rsv5B | rsv5C | rsv62 | rsv63 | rsv6B | rsv73 | rsv7B | rsv82 | rsv83 | rsv8B |
      rsv93 | rsv9B | rsvA3 | rsvAB | rsvB3 | rsvBB | rsvC2 | rsvC3 | rsvCB | rsvD3 | rsvD4 | rsvDB | rsvDC |
      rsvE2 | rsvE3 | rsvEB | rsvF3 | rsvF4 | rsvFB | rsvFC => exact hrsv _ rfl
  all_goals rfl

/-- An op code takes as many bytes as the encoding of what it is decoded to (R101). -/
theorem encode_decodeOp_length (op b1 b2 : Byte) : (encode (decodeOp op b1 b2)).length = opLength op := by
  rw [← opLength_opcode, opcode_decodeOp]

theorem opLength_pos (op : Byte) : 1 ≤ opLength op := by
  rw [← encode_decodeOp_length op 0 0]
  exact Nat.le_add_left ..

theorem opLength_le (op : Byte) : opLength op ≤ 3 := by
  rw [← encode_decodeOp_length op 0 0]
  exact encode_length_le _

/-! What the decoder answers -/

/-- A string that has a first byte is refused exactly when that byte asks for more than follow it (R101). -/
theorem decode_cons_error_iff {op op' : Byte} {tail : List Byte} :
    decode (op :: tail) = .error (.truncated op') ↔ op = op' ∧ tail.length + 1 < opLength op' := by
  rw [decode]
  split
  case isTrue h =>
    simp only [Except.error.injEq, DecodeError.truncated.injEq, iff_self_and]
    rintro rfl
    exact h
  case isFalse h =>
    simp only [reduceCtorEq, false_iff]
    rintro ⟨rfl, hlt⟩
    exact h hlt

theorem decode_cons_ok_iff {op : Byte} {tail : List Byte} {i : Instr} {rest : List Byte} :
    decode (op :: tail) = .ok (i, rest) ↔
      opLength op ≤ tail.length + 1 ∧ decodeOp op (tail.getD 0 0) (tail.getD 1 0) = i ∧
        tail.drop (opLength op - 1) = rest := by
  rw [decode]
  split
  case isTrue h => simp [h]
  case isFalse h => simp [Nat.le_of_not_lt h]

/-! Encode, then decode -/

/-- At most two bytes begin the first two bytes of whatever string they begin, padded with zeros. -/
theorem operands_prefix_getD {bytes : List Byte} (h : bytes.length ≤ 2) (rest : List Byte) :
    bytes <+: [(bytes ++ rest).getD 0 0, (bytes ++ rest).getD 1 0] := by
  match bytes with
  | [] => exact List.nil_prefix
  | [_] => exact ⟨_, rfl⟩
  | [_, _] => exact List.prefix_refl _
  | _ :: _ :: _ :: _ => exact absurd h (by simp)

/-- Decoding an encoding gives the instruction and leaves what follows it (R100 to R103). -/
theorem decode_encode_append (i : Instr) (rest : List Byte) : decode (encode i ++ rest) = .ok (i, rest) := by
  have hlen : opLength (opcode i) = (operandBytes i).length + 1 := opLength_opcode i
  have hshort : (operandBytes i).length ≤ 2 := Nat.le_of_succ_le_succ (encode_length_le i)
  rw [encode, List.cons_append, decode_cons_ok_iff]
  refine ⟨?_, decodeOp_of_prefix (operands_prefix_getD hshort rest), ?_⟩
  · rw [hlen, List.length_append]; omega
  · rw [hlen, Nat.add_sub_cancel, List.drop_left]

/-! Decode, then encode -/

/-- The operand bytes of what an assigned op code is decoded to are the bytes its length asks for, none of them dropped
(R101, R103). -/
theorem operandBytes_decodeOp {op : Byte} (h : unassigned op = false) (b1 b2 : Byte) :
    operandBytes (decodeOp op b1 b2) = [b1, b2].take (opLength op - 1) := by
  have hword : [lowByte (wordOf b1 b2), highByte (wordOf b1 b2)] = [b1, b2] := by
    rw [lowByte_wordOf, highByte_wordOf]
  obtain ⟨i, rfl⟩ : ∃ i, opcode i = op := ⟨_, opcode_decodeOp op b1 b2⟩
  cases i <;> dsimp only [opcode] at h ⊢
  case rsv02 | rsv03 | rsv0B | rsv13 | rsv1B | rsv22 | rsv23 | rsv2B | rsv33 | rsv3B | rsv42 | rsv43 | rsv44 |
      rsv4B | rsv53 | rsv54 | rsv5B | rsv5C | rsv62 | rsv63 | rsv6B | rsv73 | rsv7B | rsv82 | rsv83 | rsv8B |
      rsv93 | rsv9B | rsvA3 | rsvAB | rsvB3 | rsvBB | rsvC2 | rsvC3 | rsvCB | rsvD3 | rsvD4 | rsvDB | rsvDC |
      rsvE2 | rsvE3 | rsvEB | rsvF3 | rsvF4 | rsvFB | rsvFC => cases h
  case tsbAbs | oraAbs | aslAbs | oraAbsY | trbAbs | oraAbsX | aslAbsX | jsr | bitAbs | andAbs | rolAbs | andAbsY |
      bitAbsX | andAbsX | rolAbsX | jmpAbs | eorAbs | lsrAbs | eorAbsY | eorAbsX | lsrAbsX | jmpInd | adcAbs | rorAbs |
      adcAbsY | jmpIndX | adcAbsX | rorAbsX | styAbs | staAbs | stxAbs | staAbsY | stzAbs | staAbsX | stzAbsX | ldyAbs |
      ldaAbs | ldxAbs | ldaAbsY | ldyAbsX | ldaAbsX | ldxAbsY | cpyAbs | cmpAbs | decAbs | cmpAbsY | cmpAbsX | decAbsX |
      cpxAbs | sbcAbs | incAbs | sbcAbsY | sbcAbsX | incAbsX => exact hword
  all_goals rfl

/-- The first two bytes of a string, padded with zeros, begin as the string does. -/
theorem take_getD {tail : List Byte} {n : Nat} (hn : n ≤ 2) (hlen : n ≤ tail.length) :
    [tail.getD 0 0, tail.getD 1 0].take n = tail.take n := by
  match n, tail with
  | 0, _ => rfl
  | 1, _ :: _ => rfl
  | 2, _ :: _ :: _ => rfl

/-- What an assigned op code is decoded to is encoded as the bytes it was decoded from (R100 to R103). -/
theorem operandBytes_of_decode {op : Byte} (h : unassigned op = false) {tail : List Byte}
    (hlen : opLength op ≤ tail.length + 1) :
    operandBytes (decodeOp op (tail.getD 0 0) (tail.getD 1 0)) = tail.take (opLength op - 1) := by
  have hle := opLength_le op
  rw [operandBytes_decodeOp h, take_getD (by omega) (by omega)]

end Sys2Proof.Machine

namespace Sys2Proof.Claims

open Sys2Proof.Machine

/-- Settles O2. -/
theorem decodeEncode : Obligations.DecodeEncode := by
  intro i rest
  exact decode_encode_append i rest

/-- Settles O3, by what the decoder answers for a string that has a first byte. -/
theorem encodeDecode : Obligations.EncodeDecode := by
  intro bytes i rest h
  match bytes with
  | [] => cases h
  | op :: tail =>
    obtain ⟨hlen, rfl, rfl⟩ := decode_cons_ok_iff.1 h
    have hpos := opLength_pos op
    rw [opcode_decodeOp, encode_decodeOp_length]
    refine ⟨rfl, hlen, ?_, fun hassigned => ?_⟩
    · rw [← List.drop_succ_cons (a := op), Nat.sub_add_cancel hpos]
    · rw [encode, opcode_decodeOp, operandBytes_of_decode hassigned hlen, List.cons_append, List.take_append_drop]

/-- Settles O4. -/
theorem decodeWellFormed : Obligations.DecodeWellFormed := by
  refine ⟨fun bytes => ?_, fun bytes => ?_, fun bytes op => ?_, fun op => Laws.opLength_assigned,
    fun op => Laws.opLength_unassigned⟩
  · match bytes with
    | [] => simp [decode, wellFormed]
    | op :: tail =>
      have hpos := opLength_pos op
      simp only [decode_cons_ok_iff, wellFormed, beq_iff_eq, List.drop_eq_nil_iff]
      constructor
      · rintro ⟨i, hle, -, hge⟩; omega
      · intro h; exact ⟨_, by omega, rfl, by omega⟩
  · match bytes with
    | [] => simp [decode]
    | op :: tail => rw [decode]; split <;> simp
  · match bytes with
    | [] => simp [decode]
    | op' :: tail => rw [decode_cons_error_iff, List.head?_cons, Option.some.injEq, List.length_cons]

/-- Settles O1, byte by byte. -/
theorem decodedSamples : Obligations.DecodedSamples :=
  ⟨rfl, rfl, rfl, rfl, rfl, rfl, rfl, rfl, rfl, rfl, rfl, rfl,
    rfl, rfl, rfl, rfl, rfl, rfl, rfl, rfl, rfl, rfl, rfl⟩

end Sys2Proof.Claims

/-! PROOFS. Addresses and targets as numbers, the instructions on one bit of a page-zero byte, the branches, and the
unassigned op codes. -/

namespace Sys2Proof.Machine

open Sys2Proof.Claims

/-! Addresses as numbers -/

theorem wordOf_eq_ofNat (lo hi : Byte) : wordOf lo hi = BitVec.ofNat 16 (256 * hi.toNat + lo.toNat) := by
  rw [← wordOf_toNat, BitVec.ofNat_toNat, BitVec.setWidth_eq]

theorem zeroPage_eq_ofNat (z : Byte) : zeroPage z = BitVec.ofNat 16 z.toNat :=
  BitVec.eq_of_toNat_eq (by simp [zeroPage])

/-- Indexing in page zero wraps there (R109, R110). -/
theorem zeroPage_add_toNat (z index : Byte) : (zeroPage (z + index)).toNat = (z.toNat + index.toNat) % 256 := by
  rw [zeroPage_toNat, BitVec.toNat_add]

/-- Indexing of a word wraps at 65536 (R111, R112, R117). -/
theorem word_add_index_toNat (w : Word) (index : Byte) :
    (w + index.setWidth 16).toNat = (w.toNat + index.toNat) % 65536 := by
  simp

/-- The pointer at a page-zero address, both of its bytes in page zero (R64). -/
theorem State.readWordZP_toNat (s : State) {z : Byte} {n : Nat} (h : z.toNat = n % 256) :
    (s.readWordZP z).toNat =
      (s.readAt pointerPlace (BitVec.ofNat 16 (n % 256))).toNat +
        256 * (s.readAt (pointerPlace + 1) (BitVec.ofNat 16 ((n + 1) % 256))).toNat := by
  have hnext : (z + 1).toNat = (n + 1) % 256 := by
    rw [BitVec.toNat_add, h]
    exact Nat.mod_add_mod n 256 1
  rw [State.readWordZP, wordOf_toNat, zeroPage_eq_ofNat, zeroPage_eq_ofNat, h, hnext, Nat.add_comm]

/-- The pointer at an address, its second byte at the next one, which carries into the next page (R64). -/
theorem State.readWord_toNat (s : State) (place : Nat) {addr : Word} {n : Nat} (h : addr.toNat = n % 65536) :
    (s.readWord place addr).toNat =
      (s.readAt place (BitVec.ofNat 16 (n % 65536))).toNat +
        256 * (s.readAt (place + 1) (BitVec.ofNat 16 ((n + 1) % 65536))).toNat := by
  have haddr : addr = BitVec.ofNat 16 (n % 65536) := by
    rw [← h, BitVec.ofNat_toNat, BitVec.setWidth_eq]
  have hnext : addr + 1 = BitVec.ofNat 16 ((n + 1) % 65536) := by
    apply BitVec.eq_of_toNat_eq
    rw [BitVec.toNat_add, h, BitVec.toNat_ofNat, Nat.mod_mod]
    exact Nat.mod_add_mod n 65536 1
  rw [State.readWord, wordOf_toNat, hnext, haddr, Nat.add_comm]

/-- A relative target is the address of the next instruction plus the signed offset, wrapped at 65536 (R114, R115). -/
theorem relTarget_toNat (len : Nat) (rel : Byte) (s : State) :
    ((relTarget len rel s).toNat : Int) = (s.pc.toNat + len + rel.toInt) % 65536 := by
  rw [relTarget_eq_branchTarget, branchTarget, BitVec.toNat_ofInt]
  exact Int.toNat_of_nonneg (Int.emod_nonneg _ (by decide))

/-! One bit of a page-zero byte -/

/-- The mask of RMBn and SMBn (R120). -/
theorem getLsbD_one_shiftLeft (n k : Nat) (hk : k < 8) : ((1 : Byte) <<< n).getLsbD k = decide (k = n) := by
  have hbit : ((1 : Byte) <<< n).getLsbD k = (decide (n < 8) && decide (n = k)) := BitVec.getLsbD_twoPow n k
  rw [hbit]
  by_cases h : n = k
  · subst h
    simp [hk]
  · simp [h, Ne.symm h]

theorem changeBits_stored (f : Byte → Byte) (zp : Byte) (s : State) :
    ∃ t, changeBits f zp s = .next t ∧
      Stored s t writeBackPlace Config.mlDuringBitOps (eaZp zp) (f (s.datum (eaZp zp))) s.p 2 :=
  ⟨_, rfl, s.writeAt_stored writeBackPlace Config.mlDuringBitOps (eaZp zp) _ s.p 2⟩

/-- RMBn writes the byte back with bit `n` cleared (R200). -/
theorem resetBit_stored (n : Nat) (zp : Byte) (s : State) :
    ∃ t v, resetBit n zp s = .next t ∧ Stored s t writeBackPlace Config.mlDuringBitOps (eaZp zp) v s.p 2 ∧
      ∀ k, k < 8 → v.getLsbD k = if k = n then false else (s.datum (eaZp zp)).getLsbD k := by
  obtain ⟨t, ht, hstored⟩ := changeBits_stored (fun m => m &&& ~~~((1 : Byte) <<< n)) zp s
  refine ⟨t, _, ht, hstored, fun k hk => ?_⟩
  rw [getLsbD_and_not _ _ hk, getLsbD_one_shiftLeft n k hk]
  simp only [decide_eq_true_eq]

/-- SMBn writes the byte back with bit `n` set (R201). -/
theorem setBit_stored (n : Nat) (zp : Byte) (s : State) :
    ∃ t v, setBit n zp s = .next t ∧ Stored s t writeBackPlace Config.mlDuringBitOps (eaZp zp) v s.p 2 ∧
      ∀ k, k < 8 → v.getLsbD k = if k = n then true else (s.datum (eaZp zp)).getLsbD k := by
  obtain ⟨t, ht, hstored⟩ := changeBits_stored (fun m => m ||| (1 : Byte) <<< n) zp s
  refine ⟨t, _, ht, hstored, fun k hk => ?_⟩
  rw [getLsbD_or_ite, getLsbD_one_shiftLeft n k hk]
  simp only [decide_eq_true_eq]

/-! Branches -/

/-- A branch changes `pc` alone (R220, R230). -/
theorem branch_eq (cond : State → Bool) (len : Nat) (rel : Byte) (s : State) :
    branch cond len rel s = .next { s with pc := if cond s then branchTarget s len rel else pcAfter s len } := by
  rw [branch, relTarget_eq_branchTarget, State.advance, pc_add_eq_pcAfter]
  split
  · rfl
  · rfl

/-- BBRn and BBSn branch on the value of a bit (R230, R231). -/
theorem branch_bitIs (n : Nat) (value : Bool) (zp rel : Byte) (s : State) :
    branch (bitIs n value zp) 3 rel s = .next { s with
      pc := if (s.datum (eaZp zp)).getLsbD n = value then branchTarget s 3 rel else pcAfter s 3 } := by
  rw [branch_eq, bitIs]
  simp only [beq_iff_eq]

/-! Unassigned op codes -/

/-- An unassigned op code advances `pc` by `RsvLen` (R270). -/
theorem reserved_eq (op : Byte) (s : State) :
    reserved op s = .next { s with pc := pcAfter s (Config.rsvLen op) } := by
  rw [reserved, State.advance, pc_add_eq_pcAfter]

end Sys2Proof.Machine

namespace Sys2Proof.Claims

open Sys2Proof.Machine

/-! The op codes of the instructions with a bit number, and what each is -/

theorem opcode_rmb (n : Fin 8) (zp : Byte) : (opcode (rmb n zp)).toNat = 0x07 + 0x10 * n.val := by
  fin_cases n <;> rfl

theorem opcode_smb (n : Fin 8) (zp : Byte) : (opcode (smb n zp)).toNat = 0x87 + 0x10 * n.val := by
  fin_cases n <;> rfl

theorem opcode_bbr (n : Fin 8) (zp rel : Byte) : (opcode (bbr n zp rel)).toNat = 0x0F + 0x10 * n.val := by
  fin_cases n <;> rfl

theorem opcode_bbs (n : Fin 8) (zp rel : Byte) : (opcode (bbs n zp rel)).toNat = 0x8F + 0x10 * n.val := by
  fin_cases n <;> rfl

theorem exec_rmb (n : Fin 8) (zp : Byte) (s : State) : exec (rmb n zp) s = resetBit n.val zp s := by
  fin_cases n <;> rfl

theorem exec_smb (n : Fin 8) (zp : Byte) (s : State) : exec (smb n zp) s = setBit n.val zp s := by
  fin_cases n <;> rfl

theorem exec_bbr (n : Fin 8) (zp rel : Byte) (s : State) :
    exec (bbr n zp rel) s = branch (bitIs n.val false zp) 3 rel s := by
  fin_cases n <;> rfl

theorem exec_bbs (n : Fin 8) (zp rel : Byte) (s : State) :
    exec (bbs n zp rel) s = branch (bitIs n.val true zp) 3 rel s := by
  fin_cases n <;> rfl

/-- Each of the eight conditional branches is a branch on its flag (R221 to R229). -/
theorem exec_flagBranches {s : State} {f : BranchForm} (hf : f ∈ flagBranches s) (rel : Byte) :
    exec (f.instr rel) s = .next { s with pc := if f.cond then branchTarget s 2 rel else pcAfter s 2 } := by
  simp only [flagBranches, List.mem_cons, List.not_mem_nil, or_false] at hf
  rcases hf with rfl | rfl | rfl | rfl | rfl | rfl | rfl | rfl
  · exact branch_eq carryClear 2 rel s
  · exact branch_eq carrySet 2 rel s
  · exact branch_eq resultZero 2 rel s
  · exact branch_eq resultMinus 2 rel s
  · exact branch_eq resultNotZero 2 rel s
  · exact branch_eq resultPlus 2 rel s
  · exact branch_eq overflowClear 2 rel s
  · exact branch_eq overflowSet 2 rel s

/-- Each unassigned instruction is the no-operation of its op code (R124, R270). -/
theorem exec_unassignedInstrs {i : Instr} (hi : i ∈ unassignedInstrs) (s : State) :
    exec i s = reserved (opcode i) s := by
  have hmap : unassignedInstrs.map (fun i => exec i s) = unassignedInstrs.map fun i => reserved (opcode i) s := rfl
  exact List.map_inj_left.1 hmap i hi

/-- The list of the 46 is of op codes that the matrix leaves empty (R124). -/
theorem unassigned_unassignedInstrs : ∀ i ∈ unassignedInstrs, unassigned (opcode i) = true := by decide

/-- Settles O13. -/
theorem effectiveAddresses : Obligations.EffectiveAddresses := by
  intro s b w at16 pointerZp pointer
  have hbyte : b.toNat = b.toNat % 256 := (Nat.mod_eq_of_lt b.isLt).symm
  have hword : w.toNat = w.toNat % 65536 := (Nat.mod_eq_of_lt w.isLt).symm
  refine ⟨fun lo hi => ?_, dataAddr_abs rfl rfl s, zeroPage_toNat b, zeroPage_add_toNat b s.x,
    zeroPage_add_toNat b s.y, word_add_index_toNat w s.x, word_add_index_toNat w s.y,
    s.readWordZP_toNat (BitVec.toNat_add b s.x), ?_, s.readWordZP_toNat hbyte,
    s.readWord_toNat pointerPlace hword, s.readWord_toNat pointerPlace (word_add_index_toNat w s.x),
    relTarget_toNat 2 b s, relTarget_toNat 3 b s, fun rel => rfl⟩
  · rw [← wordOf_eq_ofNat]
    rfl
  · rw [eaIndY, word_add_index_toNat, s.readWordZP_toNat hbyte]

/-- Settles O27. -/
theorem bitMemoryResult : Obligations.BitMemoryResult := by
  intro n zp s
  rw [exec_rmb, exec_smb]
  exact ⟨opcode_rmb n zp, opcode_smb n zp, resetBit_stored n.val zp s, setBit_stored n.val zp s⟩

/-- Settles O28. -/
theorem branchResult : Obligations.BranchResult := by
  intro s n zp rel
  rw [exec_bbr, exec_bbs]
  exact ⟨fun f hf => exec_flagBranches hf rel, branch_eq always 2 rel s, opcode_bbr n zp rel, opcode_bbs n zp rel,
    branch_bitIs n.val false zp rel s, branch_bitIs n.val true zp rel s⟩

/-- Settles O38; the length is `Config.rsvLen`. -/
theorem reservedResult : Obligations.ReservedResult := by
  refine ⟨Config.rsvLen, fun op => ⟨Nat.le_add_left .., (Config.rsvLenMinusOne op).isLt⟩, fun s i hi => ?_⟩
  have hlen : opLength (opcode i) = Config.rsvLen (opcode i) :=
    Laws.opLength_unassigned (unassigned_unassignedInstrs i hi)
  refine ⟨?_, ?_, hlen⟩
  · rw [exec_unassignedInstrs hi, reserved_eq]
  · rw [fetchAccesses_length, ← opLength_opcode, hlen]

end Sys2Proof.Claims

/-! PROOFS. ADC and SBC in binary and in decimal mode, and the register transfers. -/

namespace Sys2Proof.Machine

open Sys2Proof.Claims

/-! The binary sum and difference -/

theorem addBin_result_toNat (a m : Byte) (c : Bool) :
    (addBin a m c).result.toNat = (a.toNat + m.toNat + c.toNat) % 256 :=
  BitVec.toNat_ofNat (a.toNat + m.toNat + c.toNat) 8

theorem subBin_result_toNat (a m : Byte) (c : Bool) :
    ((subBin a m c).result.toNat : Int) = ((a.toNat : Int) - m.toNat - (1 - c.toNat)) % 256 := by
  show ((BitVec.ofInt 8 ((a.toNat : Int) - m.toNat - (1 - c.toNat))).toNat : Int) = _
  rw [BitVec.toNat_ofInt]
  exact Int.toNat_of_nonneg (Int.emod_nonneg _ (by decide))

/-- The sign bit of a byte as a number. -/
theorem byte_msb_eq (v : Byte) : v.msb = decide (128 ≤ v.toNat) := BitVec.msb_eq_decide v

/-- The signed value of a byte (R160, R161). -/
theorem byte_toInt_eq (v : Byte) : v.toInt = if 128 ≤ v.toNat then (v.toNat : Int) - 256 else v.toNat := by
  rw [BitVec.toInt_eq_msb_cond, byte_msb_eq]
  simp

theorem bool_toInt_eq_toNat (c : Bool) : c.toInt = c.toNat := by
  cases c <;> rfl

/-- V of R160: the operands agree in bit 7 and the sum does not, exactly when the signed sum is no signed byte. -/
theorem addBin_overflow (a m : Byte) (c : Bool) :
    (addBin a m c).overflow =
      decide (a.toInt + m.toInt + c.toInt < -128 ∨ 127 < a.toInt + m.toInt + c.toInt) := by
  have hresult := addBin_result_toNat a m c
  have hc := c.toNat_le
  show (a.msb == m.msb && (addBin a m c).result.msb != a.msb) = _
  rw [byte_toInt_eq, byte_toInt_eq, bool_toInt_eq_toNat, byte_msb_eq, byte_msb_eq, byte_msb_eq, Bool.eq_iff_iff]
  simp only [Bool.and_eq_true, beq_iff_eq, bne_iff_ne, ne_eq, decide_eq_decide, decide_eq_true_eq]
  omega

/-- V of R161: the operands differ in bit 7 and the difference leaves that of A, exactly when the signed difference is
no signed byte. -/
theorem subBin_overflow (a m : Byte) (c : Bool) :
    (subBin a m c).overflow =
      decide (a.toInt - m.toInt - (1 - c.toNat) < -128 ∨ 127 < a.toInt - m.toInt - (1 - c.toNat)) := by
  have hresult := subBin_result_toNat a m c
  have hc := c.toNat_le
  show (a.msb != m.msb && (subBin a m c).result.msb != a.msb) = _
  rw [byte_toInt_eq, byte_toInt_eq, byte_msb_eq, byte_msb_eq, byte_msb_eq, Bool.eq_iff_iff]
  simp only [Bool.and_eq_true, bne_iff_ne, ne_eq, decide_eq_decide, decide_eq_true_eq]
  omega

/-! The decimal sum and difference -/

theorem bcdValid_iff (v : Byte) : bcdValid v = true ↔ isBcd v := by
  simp [bcdValid, isBcd]

theorem toBcd_toNat {n : Nat} (hn : n < 100) : (toBcd n).toNat = 16 * (n / 10) + n % 10 := by
  rw [toBcd, BitVec.toNat_ofNat]
  omega

theorem isBcd_toBcd {n : Nat} (hn : n < 100) : isBcd (toBcd n) := by
  rw [isBcd, toBcd_toNat hn]
  omega

/-- `bcd` is the inverse of `val` (R162). -/
theorem bcdValue_toBcd {n : Nat} (hn : n < 100) : bcdValue (toBcd n) = n := by
  rw [bcdValue, toBcd_toNat hn]
  omega

/-- A decimal difference is taken modulo 100, negative or not (R163). -/
theorem emod_hundred_lt (d : Int) : (d % 100).toNat < 100 := by
  omega

/-- The test of AddDec and SubDec on valid BCD operands (R162, R163). -/
theorem bcdValid_and_of_isBcd {a m : Byte} (ha : isBcd a) (hm : isBcd m) : (bcdValid a && bcdValid m) = true := by
  rw [(bcdValid_iff a).2 ha, (bcdValid_iff m).2 hm, Bool.and_true]

/-! ADC and SBC by mode -/

/-- Both instructions, in either mode, leave A, the four flags they set, and `pc` changed (R165, R166). -/
def State.afterSum (s : State) (r : Byte) (c v : Bool) (len : Nat) : State :=
  { s with a := r, p := { nz s.p r with c := c, v := v }, pc := pcAfter s len }

theorem State.advance_setNZ (s : State) (r : Byte) (c v : Bool) (len : Nat) :
    { s.advance len with a := r, p := { s.p.setNZ r with c := c, v := v } } = s.afterSum r c v len := by
  rw [Flags.setNZ_eq_nz, State.advance, pc_add_eq_pcAfter]
  rfl

variable {s : State}

/-- ADC with D = 0 (R160, R165). -/
theorem adc_of_binary (hd : s.p.d = false) (m : Byte) (len : Nat) :
    adc m len s =
      .next (s.afterSum (addBin s.a m s.p.c).result (addBin s.a m s.p.c).carry (addBin s.a m s.p.c).overflow len) := by
  rw [adc, if_neg (by simp [hd]), ← State.advance_setNZ]
  rfl

/-- SBC with D = 0 (R161, R166). -/
theorem sbc_of_binary (hd : s.p.d = false) (m : Byte) (len : Nat) :
    sbc m len s =
      .next (s.afterSum (subBin s.a m s.p.c).result (subBin s.a m s.p.c).carry (subBin s.a m s.p.c).overflow len) := by
  rw [sbc, if_neg (by simp [hd]), ← State.advance_setNZ]
  rfl

/-- ADC with D = 1 on valid BCD (R162, R165). -/
theorem adc_of_decimal {m : Byte} (hd : s.p.d = true) (ha : isBcd s.a) (hm : isBcd m) (len : Nat) :
    adc m len s =
      .next (s.afterSum (toBcd ((bcdValue s.a + bcdValue m + s.p.c.toNat) % 100))
        (decide (100 ≤ bcdValue s.a + bcdValue m + s.p.c.toNat)) (Config.decimalV s.a m s.p.c .add) len) := by
  rw [adc, if_pos hd, addDec, if_pos (bcdValid_and_of_isBcd ha hm), ← State.advance_setNZ]
  rfl

/-- SBC with D = 1 on valid BCD (R163, R166). -/
theorem sbc_of_decimal {m : Byte} (hd : s.p.d = true) (ha : isBcd s.a) (hm : isBcd m) (len : Nat) :
    sbc m len s =
      .next (s.afterSum (toBcd (((bcdValue s.a : Int) - bcdValue m - (1 - s.p.c.toNat)) % 100).toNat)
        (decide (0 ≤ (bcdValue s.a : Int) - bcdValue m - (1 - s.p.c.toNat)))
        (Config.decimalV s.a m s.p.c .sub) len) := by
  rw [sbc, if_pos hd, subDec, if_pos (bcdValid_and_of_isBcd ha hm), ← State.advance_setNZ]
  rfl

/-- TXS (R152). -/
theorem txs_eq (v : Byte) (s : State) : txs v s = .next { s with sp := v, pc := pcAfter s 1 } := by
  rw [txs, State.advance, pc_add_eq_pcAfter]

end Sys2Proof.Machine

namespace Sys2Proof.Claims

open Sys2Proof.Machine

section Forms

variable {s : State} {b : Byte} {w : Word} {f : ReadForm}

/-- The nine forms of an instruction have one meaning where each of them has it. -/
theorem exec_nineForms {imm zp zpX indX indY ind : Byte → Instr} {abs absX absY : Word → Instr}
    {meaning : Byte → Nat → State → Out}
    (himm : exec (imm b) s = meaning b 2 s)
    (hzp : exec (zp b) s = meaning (s.datum (eaZp b)) 2 s)
    (hzpX : exec (zpX b) s = meaning (s.datum (eaZpX b s)) 2 s)
    (hindX : exec (indX b) s = meaning (s.datum (eaIndX b s)) 2 s)
    (hindY : exec (indY b) s = meaning (s.datum (eaIndY b s)) 2 s)
    (hind : exec (ind b) s = meaning (s.datum (eaInd b s)) 2 s)
    (habs : exec (abs w) s = meaning (s.datum w) 3 s)
    (habsX : exec (absX w) s = meaning (s.datum (eaAbsX w s)) 3 s)
    (habsY : exec (absY w) s = meaning (s.datum (eaAbsY w s)) 3 s)
    (hf : f ∈ nineForms imm zp zpX indX indY ind abs absX absY s b w) :
    exec f.instr s = meaning f.operand f.length s := by
  simp only [nineForms, List.mem_cons, List.not_mem_nil, or_false] at hf
  rcases hf with rfl | rfl | rfl | rfl | rfl | rfl | rfl | rfl | rfl
  exacts [himm, hzp, hzpX, hindX, hindY, hind, habs, habsX, habsY]

theorem exec_adcForms (hf : f ∈ adcForms s b w) : exec f.instr s = adc f.operand f.length s :=
  exec_nineForms (meaning := adc) rfl rfl rfl rfl rfl rfl rfl rfl rfl hf

theorem exec_sbcForms (hf : f ∈ sbcForms s b w) : exec f.instr s = sbc f.operand f.length s :=
  exec_nineForms (meaning := sbc) rfl rfl rfl rfl rfl rfl rfl rfl rfl hf

end Forms

/-- Settles O16. -/
theorem adcBinaryResult : Obligations.AdcBinaryResult := by
  intro s b w hd f hf
  refine ⟨_, (exec_adcForms hf).trans (adc_of_binary hd f.operand f.length), ?_, addBin_result_toNat ..⟩
  rw [addBin_overflow]
  rfl

/-- Settles O17. -/
theorem sbcBinaryResult : Obligations.SbcBinaryResult := by
  intro s b w hd f hf
  refine ⟨_, (exec_sbcForms hf).trans (sbc_of_binary hd f.operand f.length), ?_, subBin_result_toNat ..⟩
  rw [subBin_overflow]
  rfl

/-- Settles O18: the result is `bcd` of a number below 100. -/
theorem adcDecimalResult : Obligations.AdcDecimalResult := by
  intro s b w hd ha f hf hm
  have hlt : (bcdValue s.a + bcdValue f.operand + s.p.c.toNat) % 100 < 100 := Nat.mod_lt _ (by decide)
  exact ⟨_, (exec_adcForms hf).trans (adc_of_decimal hd ha hm f.length), rfl, isBcd_toBcd hlt, bcdValue_toBcd hlt⟩

/-- Settles O19: the result is `bcd` of a number below 100. -/
theorem sbcDecimalResult : Obligations.SbcDecimalResult := by
  intro s b w hd ha f hf hm
  have hlt := emod_hundred_lt ((bcdValue s.a : Int) - bcdValue f.operand - (1 - s.p.c.toNat))
  refine ⟨_, (exec_sbcForms hf).trans (sbc_of_decimal hd ha hm f.length), rfl, isBcd_toBcd hlt, ?_⟩
  exact (congrArg Nat.cast (bcdValue_toBcd hlt)).trans (Int.toNat_of_nonneg (Int.emod_nonneg _ (by decide)))

/-- Settles O12. -/
theorem transferResult : Obligations.TransferResult := fun s =>
  ⟨ldx_eq s.a 1 s, ldy_eq s.a 1 s, ldx_eq s.sp 1 s, lda_eq s.x 1 s, lda_eq s.y 1 s, txs_eq s.x s⟩

end Sys2Proof.Claims

/-! PROOFS. The binary sum and difference themselves (R160, R161), ADC and SBC in decimal mode on operands that are not
valid BCD (R162, R163), and the comparisons (R164). -/

namespace Sys2Proof.Machine

open Sys2Proof.Claims

/-! The binary sum -/

/-- Bit 7 of a byte, as the meanings and as the statements have it. -/
theorem byte_msb_eq_getLsbD (v : Byte) : v.msb = v.getLsbD 7 := BitVec.msb_eq_getLsbD_last v

/-- V of R160 from bit 7 of the operands and of the result. -/
theorem addBin_overflow_eq_sign_bits (a m : Byte) (c : Bool) :
    (addBin a m c).overflow =
      decide (a.getLsbD 7 = m.getLsbD 7 ∧ (addBin a m c).result.getLsbD 7 ≠ a.getLsbD 7) := by
  simp only [← byte_msb_eq_getLsbD]
  show (a.msb == m.msb && (addBin a m c).result.msb != a.msb) = _
  rw [Bool.decide_and, decide_not]
  rfl

/-- Two bytes both differ in a bit from a third exactly when they agree there and the third differs from the first. -/
theorem getLsbD_xor_and_xor (a m r : Byte) (k : Nat) :
    ((a ^^^ r) &&& (m ^^^ r)).getLsbD k =
      decide (a.getLsbD k = m.getLsbD k ∧ r.getLsbD k ≠ a.getLsbD k) := by
  rw [BitVec.getLsbD_and, BitVec.getLsbD_xor, BitVec.getLsbD_xor]
  generalize a.getLsbD k = x, m.getLsbD k = y, r.getLsbD k = z
  revert x y z
  decide

/-- A carry of 0 adds nothing (R160). -/
theorem addBin_result_of_no_carry (a m : Byte) : (addBin a m false).result = a + m := by
  apply BitVec.eq_of_toNat_eq
  rw [addBin_result_toNat, BitVec.toNat_add]
  rfl

/-! The binary difference -/

/-- The difference of two bytes, taken over the integers and cut to a byte (R161, R164). -/
theorem byte_ofInt_sub (a m : Byte) : BitVec.ofInt 8 ((a.toNat : Int) - m.toNat) = a - m := by
  apply BitVec.eq_of_toNat_eq
  rw [BitVec.toNat_ofInt, BitVec.toNat_sub]
  omega

/-- A carry of 1 subtracts nothing more (R161). -/
theorem subBin_result_of_carry (a m : Byte) : (subBin a m true).result = a - m := by
  rw [← byte_ofInt_sub]
  show BitVec.ofInt 8 ((a.toNat : Int) - m.toNat - (1 - 1)) = _
  rw [Int.sub_self, Int.sub_zero]

/-- V of R161 from bit 7 of the operands and of the result. -/
theorem subBin_overflow_eq_sign_bits (a m : Byte) (c : Bool) :
    (subBin a m c).overflow =
      decide (a.getLsbD 7 ≠ m.getLsbD 7 ∧ (subBin a m c).result.getLsbD 7 ≠ a.getLsbD 7) := by
  simp only [← byte_msb_eq_getLsbD]
  show (a.msb != m.msb && (subBin a m c).result.msb != a.msb) = _
  rw [Bool.decide_and, decide_not, decide_not]
  rfl

/-! The difference as the sum with the complement (R161) -/

theorem byte_xor_ones (m : Byte) : m ^^^ 0xFF = ~~~m := BitVec.xor_allOnes

theorem byte_not_toNat (m : Byte) : (~~~m).toNat = 255 - m.toNat := BitVec.toNat_not

theorem subBin_result_eq_addBin_not (a m : Byte) (c : Bool) :
    (subBin a m c).result = (addBin a (~~~m) c).result := by
  have hsub := subBin_result_toNat a m c
  apply BitVec.eq_of_toNat_eq
  rw [addBin_result_toNat, byte_not_toNat]
  omega

theorem subBin_carry_eq_addBin_not (a m : Byte) (c : Bool) :
    (subBin a m c).carry = (addBin a (~~~m) c).carry := by
  show decide (0 ≤ (a.toNat : Int) - m.toNat - (1 - c.toNat)) = decide (255 < a.toNat + (~~~m).toNat + c.toNat)
  rw [byte_not_toNat, decide_eq_decide]
  omega

/-- `A` agrees in bit 7 with the complement exactly when it differs from the operand there. -/
theorem subBin_overflow_eq_addBin_not (a m : Byte) (c : Bool) :
    (subBin a m c).overflow = (addBin a (~~~m) c).overflow := by
  show (a.msb != m.msb && (subBin a m c).result.msb != a.msb) =
    (a.msb == (~~~m).msb && (addBin a (~~~m) c).result.msb != a.msb)
  have hagree : (a.msb == (~~~m).msb) = (a.msb != m.msb) := by
    rw [BitVec.msb_not]
    cases a.msb <;> cases m.msb <;> rfl
  rw [subBin_result_eq_addBin_not, hagree]

theorem subBin_eq_addBin_not (a m : Byte) (c : Bool) : subBin a m c = addBin a (~~~m) c := by
  calc subBin a m c
      = ⟨(subBin a m c).result, (subBin a m c).carry, (subBin a m c).overflow⟩ := rfl
    _ = ⟨(addBin a (~~~m) c).result, (addBin a (~~~m) c).carry, (addBin a (~~~m) c).overflow⟩ := by
      rw [subBin_result_eq_addBin_not, subBin_carry_eq_addBin_not, subBin_overflow_eq_addBin_not]
    _ = addBin a (~~~m) c := rfl

/-! ADC and SBC on operands that are not valid BCD -/

/-- The test of AddDec and SubDec (R162, R163). -/
theorem bcdValid_and_iff (a m : Byte) : (bcdValid a && bcdValid m) = true ↔ isBcd a ∧ isBcd m := by
  rw [Bool.and_eq_true, bcdValid_iff, bcdValid_iff]

/-- Either instruction with D = 1 on such operands: all it sets is free (R165, R166, log 6). -/
def State.afterDecimal (s : State) (r : Config.DecimalResult) (len : Nat) : State :=
  { s with a := r.result, p := { s.p with n := r.negative, v := r.overflow, z := r.zero, c := r.carry },
           pc := pcAfter s len }

theorem State.advance_ofDec (s : State) (r : Config.DecimalResult) (len : Nat) :
    { s.advance len with a := r.result, p := s.p.ofDec r } = s.afterDecimal r len := by
  rw [State.advance, pc_add_eq_pcAfter]
  rfl

variable {s : State} {m : Byte}

/-- ADC with D = 1 on operands of which one is not valid BCD (R162, R165). -/
theorem adc_of_not_bcd (hd : s.p.d = true) (hm : ¬ (isBcd s.a ∧ isBcd m)) (len : Nat) :
    adc m len s = .next (s.afterDecimal (Config.decimalInvalid s.a m s.p.c .add) len) := by
  rw [adc, if_pos hd, addDec, if_neg (mt (bcdValid_and_iff s.a m).1 hm), ← State.advance_ofDec]

/-- SBC with D = 1 on operands of which one is not valid BCD (R163, R166). -/
theorem sbc_of_not_bcd (hd : s.p.d = true) (hm : ¬ (isBcd s.a ∧ isBcd m)) (len : Nat) :
    sbc m len s = .next (s.afterDecimal (Config.decimalInvalid s.a m s.p.c .sub) len) := by
  rw [sbc, if_pos hd, subDec, if_neg (mt (bcdValid_and_iff s.a m).1 hm), ← State.advance_ofDec]

/-! Comparisons -/

/-- C, Z and N of `Compare(r, m)`, as the statements have them (R164). -/
theorem Flags.compare_eq (p : Flags) (r m : Byte) :
    p.compare r m =
      { p with
        c := decide (m.toNat ≤ r.toNat), z := decide (r = m)
        n := (BitVec.ofInt 8 (r.toNat - m.toNat)).getLsbD 7 } := by
  rw [byte_ofInt_sub, ← byte_msb_eq_getLsbD]
  rfl

theorem compare_eq (r m : Byte) (len : Nat) (s : State) :
    compare r m len s = .next { s with p := s.p.compare r m, pc := pcAfter s len } := by
  rw [compare, State.advance, pc_add_eq_pcAfter]

end Sys2Proof.Machine

namespace Sys2Proof.Claims

open Sys2Proof.Machine

section Forms

variable {s : State} {b : Byte} {w : Word} {f : ReadForm}

theorem exec_cmpForms (hf : f ∈ cmpForms s b w) : exec f.instr s = Machine.compare s.a f.operand f.length s :=
  exec_nineForms (meaning := Machine.compare s.a) rfl rfl rfl rfl rfl rfl rfl rfl rfl hf

theorem exec_cpxForms (hf : f ∈ cpxForms s b w) : exec f.instr s = Machine.compare s.x f.operand f.length s := by
  simp only [cpxForms, List.mem_cons, List.not_mem_nil, or_false] at hf
  rcases hf with rfl | rfl | rfl <;> rfl

theorem exec_cpyForms (hf : f ∈ cpyForms s b w) : exec f.instr s = Machine.compare s.y f.operand f.length s := by
  simp only [cpyForms, List.mem_cons, List.not_mem_nil, or_false] at hf
  rcases hf with rfl | rfl | rfl <;> rfl

end Forms

/-- Settles O14: the three readings of V are one, from bit 7 and from the signed sum. -/
theorem addBinLaw : Obligations.AddBinLaw := by
  intro a m c r sum signed
  have hbits : r.overflow = decide (a.getLsbD 7 = m.getLsbD 7 ∧ r.result.getLsbD 7 ≠ a.getLsbD 7) :=
    addBin_overflow_eq_sign_bits a m c
  exact ⟨addBin_result_toNat a m c, rfl, hbits, hbits.trans (getLsbD_xor_and_xor ..).symm, addBin_overflow a m c⟩

/-- Settles O15. -/
theorem subBinLaw : Obligations.SubBinLaw := by
  intro a m c r d
  refine ⟨subBin_result_toNat a m c, rfl, subBin_overflow_eq_sign_bits a m c, ?_, subBin_result_of_carry a m,
    addBin_result_of_no_carry a m⟩
  rw [byte_xor_ones]
  exact subBin_eq_addBin_not a m c

/-- Settles O20. -/
theorem decimalInvalidResult : Obligations.DecimalInvalidResult := fun _ _ _ hd =>
  ⟨fun f hf hm => (exec_adcForms hf).trans (adc_of_not_bcd hd hm f.length),
    fun f hf hm => (exec_sbcForms hf).trans (sbc_of_not_bcd hd hm f.length)⟩

/-- Settles O21. -/
theorem compareResult : Obligations.CompareResult := by
  intro s b w result
  refine ⟨fun f hf => ?_, fun f hf => ?_, fun f hf => ?_⟩
  · rw [exec_cmpForms hf, compare_eq, Flags.compare_eq]
  · rw [exec_cpxForms hf, compare_eq, Flags.compare_eq]
  · rw [exec_cpyForms hf, compare_eq, Flags.compare_eq]

end Sys2Proof.Claims

/-! PROOFS. AND, EOR and ORA (R190 to R192), and the two rotates as turns of one ring of nine bits, the accumulator and
C above it (R196, R197). -/

namespace Sys2Proof.Machine

/-! The rotates bit by bit -/

/-- The bits of what a rotate ORs in: bit `j` alone, where the old C is 1. -/
theorem getLsbD_ite_one_shiftLeft (c : Bool) {j k : Nat} (hk : k < 8) :
    (if c then (1 : Byte) <<< j else 0).getLsbD k = (c && decide (k = j)) := by
  cases c
  · exact BitVec.getLsbD_zero
  · exact getLsbD_one_shiftLeft j k hk

/-- ROL: the old C is the new bit 0, and every other bit is the one below it (R196). -/
theorem rotateLeft_getLsbD (c : Bool) (v : Byte) {k : Nat} (hk : k < 8) :
    (rotateLeft c v).result.getLsbD k = if k = 0 then c else v.getLsbD (k - 1) := by
  have hcarry : (if c then (0x01 : Byte) else 0x00).getLsbD k = (c && decide (k = 0)) :=
    getLsbD_ite_one_shiftLeft c (j := 0) hk
  rw [rotateLeft, BitVec.getLsbD_or, BitVec.getLsbD_shiftLeft, hcarry]
  by_cases h : k = 0
  · simp [h]
  · simp [h, hk]

/-- ROR: the old C is the new bit 7, and every other bit is the one above it (R197). -/
theorem rotateRight_getLsbD (c : Bool) (v : Byte) {k : Nat} (hk : k < 8) :
    (rotateRight c v).result.getLsbD k = if k = 7 then c else v.getLsbD (k + 1) := by
  have hcarry : (if c then (0x80 : Byte) else 0x00).getLsbD k = (c && decide (k = 7)) :=
    getLsbD_ite_one_shiftLeft c (j := 7) hk
  rw [rotateRight, BitVec.getLsbD_or, BitVec.getLsbD_ushiftRight, hcarry, Nat.add_comm]
  by_cases h : k = 7
  · simp [h]
  · simp [h]

/-! The ring of nine bits -/

/-- The ring that the rotates turn: the bits of `A`, and C as the ninth bit above them (R196, R197). Positions are
counted modulo 9. -/
def State.carryRing (s : State) (k : Fin 9) : Bool := if k = 8 then s.p.c else s.a.getLsbD k

/-- The ring holds all of `A` and C. -/
theorem State.a_and_c_of_carryRing {s t : State} (h : ∀ k, t.carryRing k = s.carryRing k) :
    t.a = s.a ∧ t.p.c = s.p.c := by
  refine ⟨BitVec.eq_of_getLsbD_eq fun k hk => ?_, h 8⟩
  have hne : (⟨k, by omega⟩ : Fin 9) ≠ 8 := Fin.ne_of_val_ne (Nat.ne_of_lt hk)
  simpa only [State.carryRing, if_neg hne] using h ⟨k, by omega⟩

/-- An instruction that turns the ring: each position takes the bit that stood `d` positions on. -/
def TurnsRing (i : Instr) (d : Fin 9) : Prop :=
  ∀ s : State, ∃ t, exec i s = .next t ∧ ∀ k, t.carryRing k = s.carryRing (k + d)

/-- ROL A takes each bit from the position below, which is eight positions on (R196). -/
theorem rolAcc_turnsRing : TurnsRing .rolAcc 8 := by
  intro s
  refine ⟨_, shiftAcc_eq (rotateLeft s.p.c) s, fun k => ?_⟩
  have hcarry := rotateLeft_carry s.p.c s.a
  have hbit {k : Nat} (hk : k < 8) := rotateLeft_getLsbD s.p.c s.a hk
  induction k using Fin.lastCases with
  | last => exact hcarry
  | cast j => fin_cases j <;> exact hbit (by decide)

/-- ROR A takes each bit from the position above (R197). -/
theorem rorAcc_turnsRing : TurnsRing .rorAcc 1 := by
  intro s
  refine ⟨_, shiftAcc_eq (rotateRight s.p.c) s, fun k => ?_⟩
  have hbit {k : Nat} (hk : k < 8) := rotateRight_getLsbD s.p.c s.a hk
  induction k using Fin.lastCases with
  | last => rfl
  | cast j => fin_cases j <;> exact hbit (by decide)

end Sys2Proof.Machine

namespace Sys2Proof.Claims

open Sys2Proof.Machine

/-! Turning the ring many times -/

theorem execTimes_succ {i : Instr} {s t : State} (h : exec i s = .next t) (n : Nat) :
    execTimes i (n + 1) s = execTimes i n t := by
  rw [execTimes, h]

/-- `n` turns by `d` are one turn by `n * d`. -/
theorem execTimes_turnsRing {i : Instr} {d : Fin 9} (hi : TurnsRing i d) (n : Nat) (s : State) :
    ∃ t, execTimes i n s = .next t ∧ ∀ k, t.carryRing k = s.carryRing (k + n • d) := by
  induction n generalizing s with
  | zero => exact ⟨s, rfl, fun k => by rw [zero_nsmul, add_zero]⟩
  | succ n ih =>
    obtain ⟨u, hu, hturn⟩ := hi s
    obtain ⟨t, ht, hturns⟩ := ih u
    exact ⟨t, (execTimes_succ hu n).trans ht, fun k => by rw [hturns, hturn, succ_nsmul, add_assoc]⟩

/-- Nine turns by whatever distance bring the ring back to where it was. -/
theorem nine_turns_restore {i : Instr} {d : Fin 9} (hi : TurnsRing i d) (s : State) :
    ∃ t, execTimes i 9 s = .next t ∧ t.a = s.a ∧ t.p.c = s.p.c := by
  have hround : ∀ d : Fin 9, 9 • d = 0 := by decide
  obtain ⟨t, ht, hturns⟩ := execTimes_turnsRing hi 9 s
  exact ⟨t, ht, State.a_and_c_of_carryRing fun k => by rw [hturns, hround d, add_zero]⟩

/-- Settles O26: both rotates turn the ring of nine bits. Eight ROL A from A = 0x01 and C = 0 leave the 1 in C. -/
theorem nineRotates : Obligations.NineRotates :=
  ⟨nine_turns_restore rolAcc_turnsRing, nine_turns_restore rorAcc_turnsRing,
    { State.reset with a := 0x01 }, _, rfl, by decide⟩

/-! The bitwise instructions -/

section Forms

variable {s : State} {b : Byte} {w : Word} {f : ReadForm}

theorem exec_andForms (hf : f ∈ andForms s b w) : exec f.instr s = lda (s.a &&& f.operand) f.length s :=
  exec_nineForms (meaning := fun m => lda (s.a &&& m)) rfl rfl rfl rfl rfl rfl rfl rfl rfl hf

theorem exec_eorForms (hf : f ∈ eorForms s b w) : exec f.instr s = lda (s.a ^^^ f.operand) f.length s :=
  exec_nineForms (meaning := fun m => lda (s.a ^^^ m)) rfl rfl rfl rfl rfl rfl rfl rfl rfl hf

theorem exec_oraForms (hf : f ∈ oraForms s b w) : exec f.instr s = lda (s.a ||| f.operand) f.length s :=
  exec_nineForms (meaning := fun m => lda (s.a ||| m)) rfl rfl rfl rfl rfl rfl rfl rfl rfl hf

end Forms

/-- Settles O23: each form loads A with the combination. -/
theorem logicResult : Obligations.LogicResult := fun s _ _ =>
  ⟨fun f hf => (exec_andForms hf).trans (lda_eq _ f.length s), fun f hf => (exec_eorForms hf).trans (lda_eq _ f.length s),
    fun f hf => (exec_oraForms hf).trans (lda_eq _ f.length s)⟩

end Sys2Proof.Claims

/-! PROOFS. A call and the return from it (R233 to R235). -/

namespace Sys2Proof.Machine

open Sys2Proof.Claims

variable {s : State}

/-- Two pulls after the two pushes of a word give back S: what stays of the pushes is their bytes and their accesses,
with no other bus master at work (R25, R26). -/
theorem State.pullWord_pushWord_eq (hd : s.dma = []) (w : Word) :
    (s.pushWord w).pullWord = { s with mem := (s.pushWord w).mem, bus := (s.pushWord w).bus } := by
  have hsp : s.sp - 2 + 1 + 1 = s.sp := by bv_omega
  rw [State.pullWord, State.pull, State.pull, s.pushWord_eq w, State.pushWord_dma_nil hd, hsp, ← hd]

/-- The two pushes of a word leave every other byte as it was, with no other bus master at work (R25, R62). -/
theorem State.read_pushWord_of_ne (hd : s.dma = []) (w : Word) {addr : Word} (htop : addr ≠ stackAddr s.sp)
    (hbelow : addr ≠ stackAddr (s.sp - 1)) : (s.pushWord w).read addr = s.read addr := by
  rw [State.read_pushWord hd, if_neg fun h => hbelow h.1.symm, if_neg fun h => htop h.1.symm]

/-- The word JSR pushes, plus the one RTS adds, is the address past the JSR (R233, R234). -/
theorem pc_add_two_add_one (s : State) : s.pc + 2 + 1 = pcAfter s 3 := by
  rw [← pc_add_eq_pcAfter, BitVec.add_assoc]
  rfl

/-- RTS from the state the pushes of JSR leave, wherever the call went (R234). -/
theorem exec_rts_pushWord (hd : s.dma = []) (htop : kindAt s.platform (stackAddr s.sp) = .ram)
    (hbelow : kindAt s.platform (stackAddr (s.sp - 1)) = .ram) (w target : Word) :
    exec .rts { s.pushWord w with pc := target } =
      .next { s with mem := (s.pushWord w).mem, bus := (s.pushWord w).bus, pc := w + 1 } := by
  have hpulled : ({ s.pushWord w with pc := target } : State).pulledWord dataPlace = w :=
    State.pulledWord_pushWord hd htop hbelow w dataPlace
  show returnFromSubroutine _ = _
  rw [returnFromSubroutine, hpulled]
  exact congrArg (fun u : State => Host.Outcome.next { u with pc := w + 1 }) (State.pullWord_pushWord_eq hd w)

end Sys2Proof.Machine

namespace Sys2Proof.Claims

open Sys2Proof.Machine

/-- Settles O36: RTS pulls the word JSR pushed, the address of JSR's third byte, and adds one. -/
theorem callThenReturn : Obligations.CallThenReturn := by
  intro s w hd htop hbelow
  refine ⟨_, _, rfl, exec_rts_pushWord hd htop hbelow (s.pc + 2) w, ?_,
    fun addr hneTop hneBelow => State.read_pushWord_of_ne hd (s.pc + 2) hneTop hneBelow⟩
  rw [pc_add_two_add_one]

end Sys2Proof.Claims

/-! PROOFS. The interrupt entry as BRK makes it, the return from it, and the flag instructions (R260 to R269, R305). -/

namespace Sys2Proof.Machine

open Sys2Proof.Claims

variable {s : State}

/-! The entry -/

/-- All of the entry but the memory and the other masters' writes it leaves: `pc` is the word at the vector, read after
the pushes (R305, R306). -/
theorem State.enterInterrupt_frame (s : State) (vector : Word) (b : Bool) (ret : Word) :
    s.enterInterrupt vector b ret = { s with
      mem := (s.enterInterrupt vector b ret).mem, dma := (s.enterInterrupt vector b ret).dma
      bus := s.bus ++ entryWrites s b ret, sp := s.sp - 3, p := { s.p with i := true, d := false }
      pc := wordOf ((s.enterInterrupt vector b ret).readAt vectorPlace vector)
        ((s.enterInterrupt vector b ret).readAt (vectorPlace + 1) (vector + 1)) } :=
  s.enterInterrupt_eq vector b ret

/-- The pushes of the entry go to three different bytes of page one (R24, R305). -/
theorem stackAddr_entry_ne (sp : Byte) :
    stackAddr (sp - 1) ≠ stackAddr sp ∧ stackAddr (sp - 2) ≠ stackAddr sp ∧
      stackAddr (sp - 2) ≠ stackAddr (sp - 1) := by
  simp only [ne_eq, stackAddr_inj]
  bv_omega

/-- The memory after the entry, with no other bus master at work, as the statements have it (R62, R305). -/
theorem State.enterInterrupt_entryBytes (hd : s.dma = []) (vector : Word) (b : Bool) (ret : Word) :
    EntryBytes s (s.enterInterrupt vector b ret) b ret := by
  intro addr
  have hsp : s.sp - 1 - 1 = s.sp - 2 := by bv_omega
  obtain ⟨-, hneTop, hneNext⟩ := stackAddr_entry_ne s.sp
  have hread : (s.enterInterrupt vector b ret).read addr =
      ((s.pushWord ret).push (dataPlace + 2) (s.p.image b)).read addr := rfl
  rw [hread, State.read_push_stored, State.upTo_of_nil (State.pushWord_dma_nil hd ret),
    State.read_pushWord_stored hd, State.pushWord_sp, State.pushWord_platform, hsp]
  by_cases hthird : addr = stackAddr (s.sp - 2)
  · subst hthird
    by_cases hram : kindAt s.platform (stackAddr (s.sp - 2)) = .ram
    · simp only [hram, hneTop, hneNext, ne_eq, not_true_eq_false, and_self, if_true, if_false]
    · simp only [hram, ne_eq, not_false_eq_true, and_false, if_true, if_false]
  · simp only [hthird, false_and, if_false]

/-! The return from the entry -/

/-- What an access reads in RAM after the entry, with no other bus master at work (R62, R305). -/
theorem State.readAt_enterInterrupt (hd : s.dma = []) {addr : Word} (hram : kindAt s.platform addr = .ram)
    (vector : Word) (b : Bool) (ret : Word) (place : Nat) :
    (s.enterInterrupt vector b ret).readAt place addr =
      if addr = stackAddr s.sp then highByte ret
      else if addr = stackAddr (s.sp - 1) then lowByte ret
      else if addr = stackAddr (s.sp - 2) then s.p.image b
      else s.read addr := by
  have hplatform : (s.enterInterrupt vector b ret).platform = s.platform := by rw [State.enterInterrupt_eq]
  rw [State.readAt_ram (by rw [hplatform, hram]), State.upTo_of_nil (State.enterInterrupt_dma_nil hd vector b ret),
    State.enterInterrupt_entryBytes hd vector b ret addr, if_neg (not_not_intro hram)]

/-- RTI undoes the entry: it pulls the image and the return address, and what stays is the three bytes and their writes,
with the stack bytes in RAM and no other bus master at work (R269, R305). -/
theorem State.returnFromInterrupt_enterInterrupt (hd : s.dma = [])
    (hram : ∀ k : Byte, k.toNat < 3 → kindAt s.platform (stackAddr (s.sp - k)) = .ram)
    (vector : Word) (b : Bool) (ret : Word) :
    (s.enterInterrupt vector b ret).returnFromInterrupt = { s with
      mem := (s.enterInterrupt vector b ret).mem, bus := s.bus ++ entryWrites s b ret, pc := ret } := by
  obtain ⟨hneNext, hneTop, hneBoth⟩ := stackAddr_entry_ne s.sp
  have hthird : s.sp - 3 + 1 = s.sp - 2 := by bv_omega
  have hnext : s.sp - 3 + 2 = s.sp - 1 := by bv_omega
  have htop : s.sp - 3 + 3 = s.sp - 0 := by bv_omega
  have hzero : s.sp - 0 = s.sp := BitVec.sub_zero s.sp
  have hframe := s.enterInterrupt_frame vector b ret
  have hsp : (s.enterInterrupt vector b ret).sp = s.sp - 3 := by rw [State.enterInterrupt_eq]
  rw [State.returnFromInterrupt_eq, hsp, hthird, hnext, htop,
    State.readAt_enterInterrupt hd (hram 2 (by decide)), if_neg hneTop, if_neg hneBoth, if_pos rfl,
    State.readAt_enterInterrupt hd (hram 1 (by decide)), if_neg hneNext, if_pos rfl,
    State.readAt_enterInterrupt hd (hram 0 (by decide)), hzero, if_pos rfl, Flags.ofByte_image,
    wordOf_lowByte_highByte]
  rw [State.enterInterrupt_dma_nil hd, ← hd] at hframe
  exact congrArg (fun t : State => { t with sp := s.sp, p := s.p, pc := ret }) hframe

/-- The return address of BRK is past its two bytes (R268). -/
theorem exec_brk (s : State) : exec .brk s = .next (s.enterInterrupt irqVector true (pcAfter s 2)) := by
  rw [← pc_add_eq_pcAfter]
  rfl

/-! The flag instructions -/

/-- A flag instruction sets `P` (R260 to R267). -/
theorem setP_eq (p : Flags) (s : State) : setP p s = .next { s with p := p, pc := pcAfter s 1 } := by
  rw [setP, State.advance, pc_add_eq_pcAfter]

end Sys2Proof.Machine

namespace Sys2Proof.Claims

open Sys2Proof.Machine

/-- The entry leaves every other byte as it was, with no other bus master at work (R62, R305). -/
theorem EntryBytes.read_of_ne {s t : State} {b : Bool} {ret addr : Word} (h : EntryBytes s t b ret)
    (htop : addr ≠ stackAddr s.sp) (hnext : addr ≠ stackAddr (s.sp - 1)) (hthird : addr ≠ stackAddr (s.sp - 2)) :
    t.read addr = s.read addr := by
  rw [h, if_neg htop, if_neg hnext, if_neg hthird, ite_self]

/-- Each of the flag instructions, and NOP, sets `P` to the flags the list gives it (R260 to R267). -/
theorem exec_flagForms {s : State} {f : Instr × Flags} (hf : f ∈ flagForms s.p) : exec f.1 s = setP f.2 s := by
  simp only [flagForms, List.mem_cons, List.not_mem_nil, or_false] at hf
  rcases hf with rfl | rfl | rfl | rfl | rfl | rfl | rfl | rfl <;> rfl

/-- Settles O39: BRK is the entry through the IRQ vector. -/
theorem breakResult : Obligations.BreakResult := fun s =>
  ⟨_, exec_brk s, s.enterInterrupt_frame irqVector true (pcAfter s 2), fun hd =>
    ⟨State.enterInterrupt_dma_nil hd _ _ _, State.enterInterrupt_entryBytes hd _ _ _⟩⟩

/-- Settles O40: RTI pulls what the entry pushed. -/
theorem entryThenReturn : Obligations.EntryThenReturn := by
  intro s hd hram
  have hreturn (vector ret : Word) (b : Bool) : exec .rti (s.enterInterrupt vector b ret) = .next { s with
      mem := (s.enterInterrupt vector b ret).mem, bus := s.bus ++ entryWrites s b ret, pc := ret } :=
    congrArg Host.Outcome.next (State.returnFromInterrupt_enterInterrupt hd hram vector b ret)
  constructor
  · intro vector ret b
    have hgoes := hreturn vector ret b
    have hbytes := State.enterInterrupt_entryBytes hd vector b ret
    generalize s.enterInterrupt vector b ret = t at hgoes hbytes ⊢
    exact ⟨_, hgoes, rfl, fun addr htop hnext hthird =>
      (State.read_congr rfl addr).trans (hbytes.read_of_ne htop hnext hthird)⟩
  · refine ⟨_, _, exec_brk s, hreturn irqVector (pcAfter s 2) true, ?_⟩
    rw [State.enterInterrupt_bus]

/-- Settles O37: each of them sets `P`. -/
theorem flagInstructionResult : Obligations.FlagInstructionResult := fun s f hf =>
  (exec_flagForms hf).trans (setP_eq f.2 s)

end Sys2Proof.Claims

/-! PROOFS. What the CPU does at a boundary where nothing holds it: the choice between the two interrupts and the next
instruction, and the deferral of an IRQ (R302 to R304, R309). Then the boundaries at which it does nothing, and those
that are outside the supported environment (R314, R317, R319, R350, R357). -/

namespace Sys2Proof.Machine

open Sys2Proof.Claims

variable {s t : State}

/-! The choice at a boundary -/

/-- With nothing to hold the CPU and no reset due, an interrupt goes before the next instruction, and the order of the
two interrupts is the free constant's (R10, R309, log 7). -/
theorem State.activity_eq_of_ready (hr : Ready s) (b : Boundary) :
    s.activity b =
      if s.nmiPending && s.irqRecognized b then (if Config.nmiBeforeIrq then .nmi else .irq)
      else if s.nmiPending then .nmi
      else if s.irqRecognized b then .irq
      else .execute := by
  simp [State.activity, hr.res_high, hr.clock_runs, hr.rdy_high, hr.be_high, hr.no_reset, hr.state_kept]

/-- A low and unmasked IRQ is recognized unless it is deferred after a CLI or PLP (R302, R304 (c) and (d)). -/
theorem State.irqRecognized_of_low (hirq : s.pins.irq = false) (hi : s.p.i = false) (b : Boundary) :
    s.irqRecognized b = !(s.irqShadow && b.deferIrq) := by
  simp [State.irqRecognized, hirq, hi]

/-- No NMI is due: the IRQ is taken unless it is deferred, and then an instruction is performed (R302, R304 (d)). -/
theorem State.activity_of_irq (hr : Ready s) (hnmi : s.nmiPending = false) (hirq : s.pins.irq = false)
    (hi : s.p.i = false) (b : Boundary) :
    s.activity b = if s.irqShadow && b.deferIrq then .execute else .irq := by
  rw [State.activity_eq_of_ready hr, State.irqRecognized_of_low hirq hi, hnmi]
  cases s.irqShadow && b.deferIrq <;> rfl

/-- Both interrupts are due and nothing is deferred: the free constant decides between them (R309, log 7). -/
theorem State.activity_of_both (hr : Ready s) (hnmi : s.nmiPending = true) (hirq : s.pins.irq = false)
    (hi : s.p.i = false) {b : Boundary} (hb : b.deferIrq = false) :
    s.activity b = if Config.nmiBeforeIrq then .nmi else .irq := by
  simp [State.activity_eq_of_ready hr, State.irqRecognized_of_low hirq hi, hnmi, hb]

/-! The step of each choice -/

/-- No pin changes and no other bus master writes: at most the deferral of an IRQ is decided. -/
structure Undisturbed (b : Boundary) : Prop extends NoPinEvent b where
  writes_nil : b.writesWithin = []

theorem State.boundary_of_nil (h : s.schedule = []) : s.boundary = Boundary.quiet := by
  rw [State.boundary, h]; rfl

theorem State.boundary_of_deferral (h : s.schedule = [deferral]) : s.boundary = deferral := by
  rw [State.boundary, h]; rfl

theorem State.undisturbed_of_nil (h : s.schedule = []) : Undisturbed s.boundary := by
  rw [State.boundary_of_nil h]; exact ⟨Boundary.quiet_noPinEvent, rfl⟩

theorem State.undisturbed_of_deferral (h : s.schedule = [deferral]) : Undisturbed s.boundary := by
  rw [State.boundary_of_deferral h]; exact ⟨⟨rfl, rfl, rfl⟩, rfl⟩

theorem State.deferIrq_of_nil (h : s.schedule = []) : s.boundary.deferIrq = false := by
  rw [State.boundary_of_nil h]; rfl

/-- At an undisturbed boundary the step is what the CPU does there. -/
theorem step_of_proceed (hb : Undisturbed s.boundary) {writesV : Bool}
    (hp : s.begin.dma = [] → t.dma = [] ∧
      s.begin.proceed s.boundary = .next (State.within s.boundary writesV s.begin t)) :
    step s = .next t := by
  obtain ⟨hdma, hproceed⟩ := hp hb.writes_nil
  rw [step, State.atBoundary_of_noPinEvent hb.toNoPinEvent]
  dsimp only
  rw [hproceed]
  simp [State.within, hb.no_so, hb.no_res, State.finish_of_nil hdma]

/-- The step that takes an IRQ. -/
theorem step_of_activity_irq (hb : Undisturbed s.boundary) (ha : s.begin.activity s.boundary = .irq) :
    step s = .next s.begin.takeIrq :=
  step_of_proceed hb (writesV := false) fun hdma =>
    ⟨State.takeInterrupt_dma_nil hdma irqVector, by rw [State.proceed, ha]⟩

/-- The step that takes an NMI. -/
theorem step_of_activity_nmi (hb : Undisturbed s.boundary) (ha : s.begin.activity s.boundary = .nmi) :
    step s = .next s.begin.takeNmi :=
  step_of_proceed hb (writesV := false) fun hdma =>
    ⟨State.takeInterrupt_dma_nil (s := { s.begin with nmiPending := false }) hdma nmiVector, by
      rw [State.proceed, ha]⟩

/-- The step that performs an instruction. -/
theorem step_of_activity_execute (hb : Undisturbed s.boundary) (ha : s.begin.activity s.boundary = .execute)
    (ht : exec s.begin.fetch s.begin = .next t) :
    step s = .next (State.record s.begin.fetch s.begin t) := by
  obtain ⟨-, -, hleft⟩ := (exec_effect ht).footprint
  exact step_of_proceed hb fun hdma => ⟨List.suffix_nil.1 (hdma ▸ hleft), State.proceed_of_execute ha ht⟩

/-- A low, unmasked IRQ that is not deferred is taken when no NMI is due (R302). -/
theorem step_of_irq (hr : Ready s) (hb : Undisturbed s.boundary) (hnmi : s.nmiPending = false)
    (hirq : s.pins.irq = false) (hi : s.p.i = false)
    (hdefer : (s.irqShadow && s.boundary.deferIrq) = false) : step s = .next s.begin.takeIrq := by
  refine step_of_activity_irq hb ?_
  have ha := State.activity_of_irq (State.begin_ready hr) (s := s.begin) hnmi hirq hi s.boundary
  have hdefer' : (s.begin.irqShadow && s.boundary.deferIrq) = false := hdefer
  rw [ha, hdefer']
  rfl

/-- What an instruction or the entry sequence leaves unchanged keeps the CPU ready. -/
theorem Footprint.ready (ht : Footprint s t) (hr : Ready s) : Ready t := by
  obtain ⟨hframe, -, -⟩ := ht
  rw [hframe]
  exact ⟨hr.res_high, hr.clock_runs, hr.rdy_high, hr.be_high, hr.no_reset, hr.state_kept⟩

/-- An interrupt entry touches nothing that could hold the CPU. -/
theorem State.takeInterrupt_ready (hr : Ready s) (vector : Word) : Ready (s.takeInterrupt vector) := by
  have h : Ready (s.enterInterrupt vector false s.pc) := (Effect.enterInterrupt ..).footprint.ready hr
  exact ⟨h.res_high, h.clock_runs, h.rdy_high, h.be_high, h.no_reset, h.state_kept⟩

/-- An interrupt entry of itself clears no NMI that is remembered, and schedules nothing. -/
theorem State.takeInterrupt_frame (s : State) (vector : Word) :
    (s.takeInterrupt vector).nmiPending = s.nmiPending ∧ (s.takeInterrupt vector).schedule = s.schedule := by
  obtain ⟨hframe, -, -⟩ := (Effect.enterInterrupt s vector false s.pc).footprint
  rw [State.takeInterrupt_eq]
  exact ⟨(congrArg State.nmiPending hframe :), (congrArg State.schedule hframe :)⟩

/-! The mark of a deferral -/

theorem unmasks_iff (i : Instr) : unmasks i = true ↔ i = .cli ∨ i = .plp := by
  constructor
  · intro h
    unfold unmasks at h
    split at h
    · exact .inl rfl
    · exact .inr rfl
    · cases h
  · rintro (rfl | rfl) <;> rfl

/-- The mark is set after a CLI or PLP by which I went from 1 to 0 (R304 (d)). -/
theorem State.record_irqShadow_iff (i : Instr) (s t : State) :
    (State.record i s t).irqShadow = true ↔ (i = .cli ∨ i = .plp) ∧ s.p.i = true ∧ t.p.i = false := by
  simp [State.record, unmasks_iff, and_assoc]

/-- An instruction started with I clear leaves no mark (R304 (d)). -/
theorem State.record_irqShadow_of_unmasked (hi : s.p.i = false) (i : Instr) :
    (State.record i s t).irqShadow = false := by
  simp [State.record, hi]

/-- Neither what a step records nor what is scheduled holds the CPU. -/
theorem State.record_ready (hr : Ready t) (i : Instr) (s : State) (schedule : List Boundary) :
    Ready { State.record i s t with schedule := schedule } :=
  ⟨hr.res_high, hr.clock_runs, hr.rdy_high, hr.be_high, hr.no_reset, hr.state_kept⟩

/-- A live machine takes an interrupt, which leaves no mark, or performs the instruction fetched and records it. -/
theorem step_of_live_cases (hl : Live s) (ht : step s = .next t) :
    t.irqShadow = false ∨
      ∃ u, exec s.begin.fetch s.begin = .next u ∧ t = State.record s.begin.fetch s.begin u := by
  have hb := State.undisturbed_of_nil hl.schedule_nil
  have hdefer := State.deferIrq_of_nil hl.schedule_nil
  rcases State.activity_cases (State.begin_ready hl.toReady) with hnmi | hirq | hn
  · rw [step_of_activity_nmi hb (hnmi _ hdefer)] at ht
    injection ht with ht
    exact .inl (ht ▸ rfl)
  · rw [step_of_activity_irq hb (hirq _ hdefer)] at ht
    injection ht with ht
    exact .inl (ht ▸ rfl)
  · obtain ⟨u, hu, -⟩ := exec_answers s.begin.fetch s.begin
    have ha := State.activity_of_ready (State.begin_ready hl.toReady) hn s.boundary
    rw [step_of_activity_execute hb ha hu] at ht
    injection ht with ht
    exact .inr ⟨u, hu, ht.symm⟩

/-- After a CLI or PLP that cleared I, the IRQ may be deferred: the step performs an instruction (R304 (d)). -/
theorem step_of_deferral (hr : Ready s) (hs : s.schedule = [deferral]) (hnmi : s.nmiPending = false)
    (hirq : s.pins.irq = false) (hi : s.p.i = false) (hshadow : s.irqShadow = true)
    (ht : exec s.begin.fetch s.begin = .next t) :
    step s = .next (State.record s.begin.fetch s.begin t) := by
  refine step_of_activity_execute (State.undisturbed_of_deferral hs) ?_ ht
  have hshadow' : s.begin.irqShadow = true := hshadow
  rw [State.activity_of_irq (State.begin_ready hr) (s := s.begin) hnmi hirq hi, hshadow', State.boundary_of_deferral hs]
  rfl

/-- Without the mark a deferral has no effect: the IRQ is taken (R302, R304 (c)). -/
theorem step_of_deferral_unmarked (hr : Ready s) (hs : s.schedule = [deferral]) (hnmi : s.nmiPending = false)
    (hirq : s.pins.irq = false) (hi : s.p.i = false) (hshadow : s.irqShadow = false) :
    step s = .next s.begin.takeIrq :=
  step_of_irq hr (State.undisturbed_of_deferral hs) hnmi hirq hi (by rw [hshadow]; rfl)

/-! The CPU held -/

/-- RES high, and RDY low or the clock stopped: nothing is done (R314, R319). -/
theorem State.activity_of_suspended (hres : s.pins.res = true)
    (hheld : s.pins.rdy = false ∨ s.pins.clock = .heldHigh) (b : Boundary) : s.activity b = .suspended := by
  rcases hheld with h | h <;> simp [State.activity, hres, h]

/-- Where the CPU is suspended, the step ends as it began. -/
theorem step_of_suspended (hnil : s.schedule = []) (hres : s.pins.res = true)
    (hheld : s.pins.rdy = false ∨ s.pins.clock = .heldHigh) : step s = .next s.begin := by
  have hdma : s.begin.dma = [] := by rw [State.begin_of_nil hnil]
  rw [step_of_nil hnil, State.proceed, State.activity_of_suspended (s := s.begin) hres hheld]
  exact congrArg Host.Outcome.next (State.finish_of_nil hdma)

/-- While RES is low, the step only notes that the clock has run (R350, log 14). -/
theorem step_of_res_low (hnil : s.schedule = []) (hres : s.pins.res = false) :
    step s = .next { s.begin with resHeld := s.resHeld || s.pins.clock == .running } := by
  have hdma : s.begin.dma = [] := by rw [State.begin_of_nil hnil]
  rw [step_of_nil hnil, State.proceed_of_res_low (s := s.begin) hres, State.holdReset, State.finish_of_nil hdma]
  rfl

/-! Refusals -/

/-- BE low while the CPU would run (R317, log 13). -/
theorem State.activity_of_be_low (hres : s.pins.res = true) (hclock : s.pins.clock = .running)
    (hrdy : s.pins.rdy = true) (hbe : s.pins.be = false) (b : Boundary) :
    s.activity b = .refuse .busDisabled := by
  simp [State.activity, hres, hclock, hrdy, hbe]

/-- No reset is due after a loss of state (R357, log 15). -/
theorem State.activity_of_stateLost (hres : s.pins.res = true) (hclock : s.pins.clock = .running)
    (hrdy : s.pins.rdy = true) (hbe : s.pins.be = true) (hpending : s.resPending = false)
    (hlost : s.stateLost = true) (b : Boundary) : s.activity b = .refuse .stateLost := by
  simp [State.activity, hres, hclock, hrdy, hbe, hpending, hlost]

theorem State.proceed_of_refuse {b : Boundary} {r : Refusal} (ha : s.activity b = .refuse r) :
    s.proceed b = .refused r := by
  rw [State.proceed, ha]

/-- RES let go before it was low for a step (R350, log 14). -/
theorem State.onPin_res_too_short (hres : s.pins.res = false) (hheld : s.resHeld = false) :
    s.onPin (.res true) = .error .resetPulseTooShort := by
  simp [State.onPin, hres, hheld]

/-- What the CPU does at a boundary is refused for BE or for a loss of state, nothing else. -/
theorem State.refusal_of_activity {b : Boundary} {r : Refusal} (h : s.activity b = .refuse r) :
    r = .busDisabled ∨ r = .stateLost := by
  unfold State.activity at h
  split_ifs at h
  · injection h with h; exact .inl h.symm
  · injection h with h; exact .inr h.symm

/-- The one pin event that is refused is the end of a RES pulse that was too short. -/
theorem State.refusal_of_onPin {e : PinEvent} {r : Refusal} (h : s.onPin e = .error r) :
    r = .resetPulseTooShort := by
  cases e with
  | irq | nmi | so | rdy | be | clock | busWrite => cases h
  | res high =>
    simp only [State.onPin] at h
    split_ifs at h
    injection h with h
    exact h.symm

theorem State.refusal_of_onPins {events : List PinEvent} {r : Refusal} (h : s.onPins events = .error r) :
    r = .resetPulseTooShort := by
  induction events generalizing s with
  | nil => cases h
  | cons e rest ih =>
    rw [State.onPins] at h
    split at h
    · exact ih h
    · next r' hr' => injection h with h; exact h ▸ State.refusal_of_onPin hr'

/-- What the CPU does is refused only where its activity is a refusal: every instruction answers. -/
theorem State.refusal_of_proceed {b : Boundary} {r : Refusal} (h : s.proceed b = .refused r) :
    r = .busDisabled ∨ r = .stateLost := by
  unfold State.proceed at h
  split at h
  case h_1 | h_2 | h_4 | h_5 | h_6 => cases h
  case h_3 r' ha => injection h with h; exact h ▸ State.refusal_of_activity ha
  case h_7 =>
    obtain ⟨t, ht, -⟩ := exec_answers s.fetch s
    rw [ht] at h
    cases h

theorem refusal_of_step {r : Refusal} (h : step s = .refused r) :
    r = .busDisabled ∨ r = .resetPulseTooShort ∨ r = .stateLost := by
  unfold step at h
  split at h
  · next r' hr' => injection h with h; exact .inr (.inl (h ▸ State.refusal_of_onPins hr'))
  · rcases State.refusal_of_proceed h with hbus | hlost
    · exact .inl hbus
    · exact .inr (.inr hlost)

end Sys2Proof.Machine

namespace Sys2Proof.Claims

open Sys2Proof.Machine

/-- Settles O41: the step is the entry through the IRQ vector, nothing being deferred at a quiet boundary. -/
theorem irqTaken : Obligations.IrqTaken := by
  intro s hl hnmi hirq hi
  have hbegin := State.begin_of_nil hl.schedule_nil
  have hdma : s.begin.dma = [] := (congrArg State.dma hbegin :)
  have hbus : s.begin.bus = [] := (congrArg State.bus hbegin :)
  have hschedule : s.begin.schedule = s.schedule := (congrArg State.schedule hbegin :)
  have hdefer : (s.irqShadow && s.boundary.deferIrq) = false := by
    rw [State.deferIrq_of_nil hl.schedule_nil, Bool.and_false]
  refine ⟨s.begin.takeIrq, ?_, ?_, State.takeInterrupt_entryBytes hdma irqVector⟩
  · exact step_of_irq hl.toReady (State.undisturbed_of_nil hl.schedule_nil) hnmi hirq hi hdefer
  · have heq := State.takeInterrupt_eq_of_nil hdma irqVector
    rw [hbus, hschedule] at heq
    exact heq

/-- Settles O43: the free constant decides, and after the IRQ entry the machine is live, with I set and the NMI due. -/
theorem nmiAndIrqTogether : Obligations.NmiAndIrqTogether := by
  intro s hl hnmi hirq hi
  have hready := State.begin_ready hl.toReady
  have hb := State.undisturbed_of_nil hl.schedule_nil
  have ha := State.activity_of_both hready (s := s.begin) hnmi hirq hi (State.deferIrq_of_nil hl.schedule_nil)
  cases horder : Config.nmiBeforeIrq with
  | true =>
    rw [horder] at ha
    exact .inl ⟨step_of_activity_nmi hb ha, rfl, rfl⟩
  | false =>
    rw [horder] at ha
    have hnil : s.begin.schedule = [] := by rw [State.begin_of_nil hl.schedule_nil, hl.schedule_nil]
    obtain ⟨hpending, hschedule⟩ := s.begin.takeInterrupt_frame irqVector
    have hlive : Live s.begin.takeIrq := ⟨State.takeInterrupt_ready hready irqVector, hschedule.trans hnil⟩
    have hstill : s.begin.takeIrq.nmiPending = true := hpending.trans hnmi
    exact .inr ⟨step_of_activity_irq hb ha, hstill, step_of_nmi hlive hstill (.inr rfl)⟩

/-- Settles O44: a deferral has effect only where the mark stands, and the step that sees it leaves none. -/
theorem irqDeferral : Obligations.IrqDeferral := by
  refine ⟨fun s hr hs hnmi hirq hi => ⟨step_of_deferral_unmarked hr hs hnmi hirq hi, fun hshadow => ?_⟩,
    fun s t hl ht hshadow => ?_⟩
  · obtain ⟨t, ht, heffect⟩ := exec_answers s.begin.fetch s.begin
    have hmark := State.record_irqShadow_of_unmasked (s := s.begin) (t := t) hi s.begin.fetch
    have hfoot := heffect.footprint
    have hready : Ready t := hfoot.ready (State.begin_ready hr)
    have hpins : t.pins = s.pins := (congrArg State.pins hfoot.1 :)
    have hpending : t.nmiPending = s.nmiPending := (congrArg State.nmiPending hfoot.1 :)
    refine ⟨t, _, ht, step_of_deferral hr hs hnmi hirq hi hshadow ht, ?_, fun hclear => ?_⟩
    · rw [← hmark]
      rfl
    · exact step_of_deferral_unmarked (State.record_ready hready _ _ _) rfl (hpending.trans hnmi)
        ((congrArg Pins.irq hpins).trans hirq) hclear hmark
  · rcases step_of_live_cases hl ht with hnone | ⟨u, -, rfl⟩
    · rw [hnone] at hshadow
      cases hshadow
    · exact (State.record_irqShadow_iff _ s.begin u).1 hshadow

/-- Settles O51: there is no fault to answer, and each refusal is traced to the boundary or the activity. -/
theorem nothingFaults : Obligations.NothingFaults := by
  refine ⟨fun i s => ?_, ?_, fun _ _ h => refusal_of_step h⟩
  · obtain ⟨t, ht, -⟩ := exec_answers i s
    exact ⟨t, ht⟩
  · rintro s ⟨⟩

/-- Settles O46: where the CPU is held, the step does no more than begin. -/
theorem suspended : Obligations.Suspended := by
  intro s hnil _ _
  have hbegin := State.begin_of_nil hnil
  refine ⟨fun hres hheld => ?_, fun hres => ?_⟩
  · rw [step_of_suspended hnil hres hheld, hbegin]
  · rw [step_of_res_low hnil hres, hbegin]

/-- Settles O50: two are refused as activities, one as a pin event. -/
theorem unsupportedEnvironments : Obligations.UnsupportedEnvironments := by
  refine ⟨fun s hnil hres hclock hrdy hbe => ?_, fun _ => State.onPin_res_too_short,
    fun s hnil hres hclock hrdy hbe hpending hlost => ?_⟩
  · rw [step_of_nil hnil]
    exact State.proceed_of_refuse (State.activity_of_be_low (s := s.begin) hres hclock hrdy hbe _)
  · rw [step_of_nil hnil]
    exact State.proceed_of_refuse (State.activity_of_stateLost (s := s.begin) hres hclock hrdy hbe hpending hlost _)

end Sys2Proof.Claims
